-- ==== Sys2Proof/Word.lean ====
section
/-!
DEFINITION. The widths of the core's data, addresses and instruction words (spec/00_scope.md R6, R7), and the
list form in which a memory is held. Operations on memories are in Sys2Proof/Machine/Memory.lean.
-/

namespace Sys2Proof

/-- One data word, one register of the accumulator, index or ALU group: 4 bits (R6). -/
abbrev Nibble := BitVec 4

/-- One instruction word: 12 bits (R6, R90). -/
abbrev InstrWord := BitVec 12

/-- A data-memory address: 4 page bits and 8 low bits (R6, R64). -/
abbrev DataAddr := BitVec 12

/-- A program-memory address: 1 bank bit, 4 page bits, 8 step bits (R6, R61). -/
abbrev ProgAddr := BitVec 13

/-- A memory of `w`-bit units: the units that hold a value, as pairs of address and value, addresses strictly
rising (`Memory.wf`). The unit is the hardware's own: 4 bits for data (R64), 12 bits for program words (R61).
An address that is not listed holds no value: a data word never written since reset (R35), or a program
address with no ROM behind it (R61). -/
abbrev Memory (w : Nat) := List (Nat × BitVec w)

end Sys2Proof
end

