-- ==== Sys2Proof/Syntax.lean ====
section
/-!
DEFINITION. The instructions: one constructor for each row of spec/opcode_table.json, in the table's order
(spec/30_encoding.md R100), aliases (R99) included. Operands are the fields of R92.
-/

namespace Sys2Proof

/-- The operand selector of a field `r` or `q` (R96, Table 3.2.1): A, B, the data word addressed by IX, the data
word addressed by IY. -/
inductive Reg where
  | a
  | b
  | mx
  | my
  deriving DecidableEq, Repr

/-- The 109 instructions (R90, R100). `s`, `e`, `p`, `i`, `n` are the immediates of R92, used as encoded. -/
inductive Instr where
  /-- JP s, 0000 ssss ssss (R121). -/
  | jp (s : BitVec 8)
  /-- RETD e, 0001 eeee eeee (R131). -/
  | retd (e : BitVec 8)
  /-- JP C,s, 0010 ssss ssss (R122). -/
  | jpC (s : BitVec 8)
  /-- JP NC,s, 0011 ssss ssss (R123). -/
  | jpNC (s : BitVec 8)
  /-- CALL s, 0100 ssss ssss (R127). -/
  | call (s : BitVec 8)
  /-- CALZ s, 0101 ssss ssss (R128). -/
  | calz (s : BitVec 8)
  /-- JP Z,s, 0110 ssss ssss (R124). -/
  | jpZ (s : BitVec 8)
  /-- JP NZ,s, 0111 ssss ssss (R125). -/
  | jpNZ (s : BitVec 8)
  /-- LD Y,e, 1000 eeee eeee (R153). -/
  | ldYE (e : BitVec 8)
  /-- LBPX MX,e, 1001 eeee eeee (R190). -/
  | lbpxMXE (e : BitVec 8)
  /-- ADC XH,i, 1010 0000 iiii (R166). -/
  | adcXHI (i : Nibble)
  /-- ADC XL,i, 1010 0001 iiii (R167). -/
  | adcXLI (i : Nibble)
  /-- ADC YH,i, 1010 0010 iiii (R168). -/
  | adcYHI (i : Nibble)
  /-- ADC YL,i, 1010 0011 iiii (R169). -/
  | adcYLI (i : Nibble)
  /-- CP XH,i, 1010 0100 iiii (R170). -/
  | cpXHI (i : Nibble)
  /-- CP XL,i, 1010 0101 iiii (R171). -/
  | cpXLI (i : Nibble)
  /-- CP YH,i, 1010 0110 iiii (R172). -/
  | cpYHI (i : Nibble)
  /-- CP YL,i, 1010 0111 iiii (R173). -/
  | cpYLI (i : Nibble)
  /-- ADD r,q, 1010 1000 rrqq (R251). -/
  | addRQ (r : Reg) (q : Reg)
  /-- ADC r,q, 1010 1001 rrqq (R253). -/
  | adcRQ (r : Reg) (q : Reg)
  /-- SUB r,q, 1010 1010 rrqq (R254). -/
  | subRQ (r : Reg) (q : Reg)
  /-- SBC r,q, 1010 1011 rrqq (R256). -/
  | sbcRQ (r : Reg) (q : Reg)
  /-- AND r,q, 1010 1100 rrqq (R258). -/
  | andRQ (r : Reg) (q : Reg)
  /-- OR r,q, 1010 1101 rrqq (R260). -/
  | orRQ (r : Reg) (q : Reg)
  /-- XOR r,q, 1010 1110 rrqq (R262). -/
  | xorRQ (r : Reg) (q : Reg)
  /-- RLC r, 1010 1111 rrrr (R267). -/
  | rlcR (r : Reg)
  /-- LD X,e, 1011 eeee eeee (R152). -/
  | ldXE (e : BitVec 8)
  /-- ADD r,i, 1100 00rr iiii (R250). -/
  | addRI (r : Reg) (i : Nibble)
  /-- ADC r,i, 1100 01rr iiii (R252). -/
  | adcRI (r : Reg) (i : Nibble)
  /-- AND r,i, 1100 10rr iiii (R257). -/
  | andRI (r : Reg) (i : Nibble)
  /-- OR r,i, 1100 11rr iiii (R259). -/
  | orRI (r : Reg) (i : Nibble)
  /-- XOR r,i, 1101 00rr iiii (R261). -/
  | xorRI (r : Reg) (i : Nibble)
  /-- NOT r, 1101 00rr 1111 (R287). -/
  | notR (r : Reg)
  /-- SBC r,i, 1101 01rr iiii (R255). -/
  | sbcRI (r : Reg) (i : Nibble)
  /-- FAN r,i, 1101 10rr iiii (R265). -/
  | fanRI (r : Reg) (i : Nibble)
  /-- CP r,i, 1101 11rr iiii (R263). -/
  | cpRI (r : Reg) (i : Nibble)
  /-- LD r,i, 1110 00rr iiii (R180). -/
  | ldRI (r : Reg) (i : Nibble)
  /-- PSET p, 1110 010p pppp (R120). -/
  | pset (p : BitVec 5)
  /-- LDPX MX,i, 1110 0110 iiii (R186). -/
  | ldpxMXI (i : Nibble)
  /-- LDPY MY,i, 1110 0111 iiii (R188). -/
  | ldpyMYI (i : Nibble)
  /-- LD XP,r, 1110 1000 00rr (R154). -/
  | ldXPR (r : Reg)
  /-- LD XH,r, 1110 1000 01rr (R155). -/
  | ldXHR (r : Reg)
  /-- LD XL,r, 1110 1000 10rr (R156). -/
  | ldXLR (r : Reg)
  /-- RRC r, 1110 1000 11rr (R268). -/
  | rrcR (r : Reg)
  /-- LD YP,r, 1110 1001 00rr (R157). -/
  | ldYPR (r : Reg)
  /-- LD YH,r, 1110 1001 01rr (R158). -/
  | ldYHR (r : Reg)
  /-- LD YL,r, 1110 1001 10rr (R159). -/
  | ldYLR (r : Reg)
  /-- LD r,XP, 1110 1010 00rr (R160). -/
  | ldRXP (r : Reg)
  /-- LD r,XH, 1110 1010 01rr (R161). -/
  | ldRXH (r : Reg)
  /-- LD r,XL, 1110 1010 10rr (R162). -/
  | ldRXL (r : Reg)
  /-- LD r,YP, 1110 1011 00rr (R163). -/
  | ldRYP (r : Reg)
  /-- LD r,YH, 1110 1011 01rr (R164). -/
  | ldRYH (r : Reg)
  /-- LD r,YL, 1110 1011 10rr (R165). -/
  | ldRYL (r : Reg)
  /-- LD r,q, 1110 1100 rrqq (R181). -/
  | ldRQ (r : Reg) (q : Reg)
  /-- LDPX r,q, 1110 1110 rrqq (R187). -/
  | ldpxRQ (r : Reg) (q : Reg)
  /-- INC X, 1110 1110 0000 (R150). -/
  | incX
  /-- LDPY r,q, 1110 1111 rrqq (R189). -/
  | ldpyRQ (r : Reg) (q : Reg)
  /-- INC Y, 1110 1111 0000 (R151). -/
  | incY
  /-- CP r,q, 1111 0000 rrqq (R264). -/
  | cpRQ (r : Reg) (q : Reg)
  /-- FAN r,q, 1111 0001 rrqq (R266). -/
  | fanRQ (r : Reg) (q : Reg)
  /-- ACPX MX,r, 1111 0010 10rr (R283). -/
  | acpxMXR (r : Reg)
  /-- ACPY MY,r, 1111 0010 11rr (R284). -/
  | acpyMYR (r : Reg)
  /-- SCPX MX,r, 1111 0011 10rr (R285). -/
  | scpxMXR (r : Reg)
  /-- SCPY MY,r, 1111 0011 11rr (R286). -/
  | scpyMYR (r : Reg)
  /-- SET F,i, 1111 0100 iiii (R200). -/
  | setF (i : Nibble)
  /-- SCF, 1111 0100 0001 (R202). -/
  | scf
  /-- SZF, 1111 0100 0010 (R204). -/
  | szf
  /-- SDF, 1111 0100 0100 (R206). -/
  | sdf
  /-- EI, 1111 0100 1000 (R208). -/
  | ei
  /-- RST F,i, 1111 0101 iiii (R201). -/
  | rstF (i : Nibble)
  /-- DI, 1111 0101 0111 (R209). -/
  | di
  /-- RDF, 1111 0101 1011 (R207). -/
  | rdf
  /-- RZF, 1111 0101 1101 (R205). -/
  | rzf
  /-- RCF, 1111 0101 1110 (R203). -/
  | rcf
  /-- INC Mn, 1111 0110 nnnn (R269). -/
  | incMn (n : Nibble)
  /-- DEC Mn, 1111 0111 nnnn (R270). -/
  | decMn (n : Nibble)
  /-- LD Mn,A, 1111 1000 nnnn (R184). -/
  | ldMnA (n : Nibble)
  /-- LD Mn,B, 1111 1001 nnnn (R185). -/
  | ldMnB (n : Nibble)
  /-- LD A,Mn, 1111 1010 nnnn (R182). -/
  | ldAMn (n : Nibble)
  /-- LD B,Mn, 1111 1011 nnnn (R183). -/
  | ldBMn (n : Nibble)
  /-- PUSH r, 1111 1100 00rr (R217). -/
  | pushR (r : Reg)
  /-- PUSH XP, 1111 1100 0100 (R218). -/
  | pushXP
  /-- PUSH XH, 1111 1100 0101 (R219). -/
  | pushXH
  /-- PUSH XL, 1111 1100 0110 (R220). -/
  | pushXL
  /-- PUSH YP, 1111 1100 0111 (R221). -/
  | pushYP
  /-- PUSH YH, 1111 1100 1000 (R222). -/
  | pushYH
  /-- PUSH YL, 1111 1100 1001 (R223). -/
  | pushYL
  /-- PUSH F, 1111 1100 1010 (R224). -/
  | pushF
  /-- DEC SP, 1111 1100 1011 (R216). -/
  | decSP
  /-- POP r, 1111 1101 00rr (R225). -/
  | popR (r : Reg)
  /-- POP XP, 1111 1101 0100 (R226). -/
  | popXP
  /-- POP XH, 1111 1101 0101 (R227). -/
  | popXH
  /-- POP XL, 1111 1101 0110 (R228). -/
  | popXL
  /-- POP YP, 1111 1101 0111 (R229). -/
  | popYP
  /-- POP YH, 1111 1101 1000 (R230). -/
  | popYH
  /-- POP YL, 1111 1101 1001 (R231). -/
  | popYL
  /-- POP F, 1111 1101 1010 (R232). -/
  | popF
  /-- INC SP, 1111 1101 1011 (R215). -/
  | incSP
  /-- RETS, 1111 1101 1110 (R130). -/
  | rets
  /-- RET, 1111 1101 1111 (R129). -/
  | ret
  /-- LD SPH,r, 1111 1110 00rr (R233). -/
  | ldSPHR (r : Reg)
  /-- LD r,SPH, 1111 1110 01rr (R235). -/
  | ldRSPH (r : Reg)
  /-- JPBA, 1111 1110 1000 (R126). -/
  | jpba
  /-- LD SPL,r, 1111 1111 00rr (R234). -/
  | ldSPLR (r : Reg)
  /-- LD r,SPL, 1111 1111 01rr (R236). -/
  | ldRSPL (r : Reg)
  /-- HALT, 1111 1111 1000 (R142). -/
  | halt
  /-- SLP, 1111 1111 1001 (R143). -/
  | slp
  /-- NOP5, 1111 1111 1011 (R140). -/
  | nop5
  /-- NOP7, 1111 1111 1111 (R141). -/
  | nop7
  deriving DecidableEq, Repr

end Sys2Proof
end

