-- ==== Sys2Proof/WellFormed.lean ====
section
/-!
DEFINITION. Which instruction names one word carries (spec/30_encoding.md R99). Eleven mnemonics are second names
for words of a general form; the decoder answers with the second name, so the general form with that operand is
not the name the word carries. Every other operand of every instruction is legal (R92, R96).
-/

namespace Sys2Proof

/-- The name under which the decoder answers the word of an instruction: the alias where R99 gives the word
one, the instruction itself otherwise. -/
def Instr.canonical : Instr → Instr
  | .xorRI r i => if i = 0xF#4 then .notR r else .xorRI r i
  | .ldpxRQ r q => if r = .a ∧ q = .a then .incX else .ldpxRQ r q
  | .ldpyRQ r q => if r = .a ∧ q = .a then .incY else .ldpyRQ r q
  | .setF i =>
    if i = 0x1#4 then .scf
    else if i = 0x2#4 then .szf
    else if i = 0x4#4 then .sdf
    else if i = 0x8#4 then .ei
    else .setF i
  | .rstF i =>
    if i = 0xE#4 then .rcf
    else if i = 0xD#4 then .rzf
    else if i = 0xB#4 then .rdf
    else if i = 0x7#4 then .di
    else .rstF i
  | i => i

/-- An instruction is well formed when it is the name the decoder gives its word. -/
abbrev Instr.WellFormed (i : Instr) : Prop := i.canonical = i

end Sys2Proof
end

