-- ==== Sys2Proof/Decode.lean ====
section
/-!
DEFINITION. The opcode map of spec/30_encoding.md R100 as a decoder of any 12-bit word, and the encoder written
from the same rows. A word is one instruction (R90): there is no second word and no byte order.
-/

namespace Sys2Proof

/-- Why a word is no instruction. -/
inductive DecodeError where
  /-- One of the 61 words of R104. -/
  | undefinedWord
  /-- An RLC word with two different operand copies (R105). -/
  | rlcFields
  deriving DecidableEq, Repr

/-- The operand a 2-bit selector names (R96). -/
def Reg.ofCode (c : BitVec 2) : Reg :=
  if c = 0b00#2 then .a else if c = 0b01#2 then .b else if c = 0b10#2 then .mx else .my

/-- The 2-bit selector of an operand (R96). -/
def Reg.code : Reg → BitVec 2
  | .a  => 0b00
  | .b  => 0b01
  | .mx => 0b10
  | .my => 0b11

/-- The fields `s` and `e`: bits 7 to 0 (R92). -/
def imm8 (w : InstrWord) : BitVec 8 := w.extractLsb' 0 8
/-- The field `p`: bits 4 to 0 (R92). -/
def imm5 (w : InstrWord) : BitVec 5 := w.extractLsb' 0 5
/-- The fields `i` and `n`: bits 3 to 0 (R92). -/
def imm4 (w : InstrWord) : Nibble := w.extractLsb' 0 4
/-- The field `r` of type II: bits 5 to 4 (R92). -/
def selHigh (w : InstrWord) : Reg := .ofCode (w.extractLsb' 4 2)
/-- The field `r` of type IV: bits 3 to 2 (R92). -/
def selMid (w : InstrWord) : Reg := .ofCode (w.extractLsb' 2 2)
/-- The fields `r` of type V and `q` of type IV: bits 1 to 0 (R92). -/
def selLow (w : InstrWord) : Reg := .ofCode (w.extractLsb' 0 2)

/-- One row of the opcode map: the words `w` with `w &&& mask = pattern`, and the instruction each of them is. -/
structure DecodeRow where
  mask    : InstrWord
  pattern : InstrWord
  build   : InstrWord → Instr

/-- The eleven second names of R99; each lies inside a general form, so they are looked at first. -/
def aliasRows : List DecodeRow :=
  [
    { mask := 0xFCF, pattern := 0xD0F, build := fun w => .notR (selHigh w) },
    { mask := 0xFFF, pattern := 0xEE0, build := fun _ => .incX },
    { mask := 0xFFF, pattern := 0xEF0, build := fun _ => .incY },
    { mask := 0xFFF, pattern := 0xF41, build := fun _ => .scf },
    { mask := 0xFFF, pattern := 0xF42, build := fun _ => .szf },
    { mask := 0xFFF, pattern := 0xF44, build := fun _ => .sdf },
    { mask := 0xFFF, pattern := 0xF48, build := fun _ => .ei },
    { mask := 0xFFF, pattern := 0xF57, build := fun _ => .di },
    { mask := 0xFFF, pattern := 0xF5B, build := fun _ => .rdf },
    { mask := 0xFFF, pattern := 0xF5D, build := fun _ => .rzf },
    { mask := 0xFFF, pattern := 0xF5E, build := fun _ => .rcf } ]

/-- Branch instructions, spec/40_branch.md (R100). -/
def branchRows : List DecodeRow :=
  [
    { mask := 0xF00, pattern := 0x000, build := fun w => .jp (imm8 w) },
    { mask := 0xF00, pattern := 0x100, build := fun w => .retd (imm8 w) },
    { mask := 0xF00, pattern := 0x200, build := fun w => .jpC (imm8 w) },
    { mask := 0xF00, pattern := 0x300, build := fun w => .jpNC (imm8 w) },
    { mask := 0xF00, pattern := 0x400, build := fun w => .call (imm8 w) },
    { mask := 0xF00, pattern := 0x500, build := fun w => .calz (imm8 w) },
    { mask := 0xF00, pattern := 0x600, build := fun w => .jpZ (imm8 w) },
    { mask := 0xF00, pattern := 0x700, build := fun w => .jpNZ (imm8 w) },
    { mask := 0xFE0, pattern := 0xE40, build := fun w => .pset (imm5 w) },
    { mask := 0xFFF, pattern := 0xFDE, build := fun _ => .rets },
    { mask := 0xFFF, pattern := 0xFDF, build := fun _ => .ret },
    { mask := 0xFFF, pattern := 0xFE8, build := fun _ => .jpba } ]

/-- System control instructions, spec/41_system_control.md (R100). -/
def systemRows : List DecodeRow :=
  [
    { mask := 0xFFF, pattern := 0xFF8, build := fun _ => .halt },
    { mask := 0xFFF, pattern := 0xFF9, build := fun _ => .slp },
    { mask := 0xFFF, pattern := 0xFFB, build := fun _ => .nop5 },
    { mask := 0xFFF, pattern := 0xFFF, build := fun _ => .nop7 } ]

/-- Index operation instructions, spec/42_index.md (R100). -/
def indexRows : List DecodeRow :=
  [
    { mask := 0xF00, pattern := 0x800, build := fun w => .ldYE (imm8 w) },
    { mask := 0xFF0, pattern := 0xA00, build := fun w => .adcXHI (imm4 w) },
    { mask := 0xFF0, pattern := 0xA10, build := fun w => .adcXLI (imm4 w) },
    { mask := 0xFF0, pattern := 0xA20, build := fun w => .adcYHI (imm4 w) },
    { mask := 0xFF0, pattern := 0xA30, build := fun w => .adcYLI (imm4 w) },
    { mask := 0xFF0, pattern := 0xA40, build := fun w => .cpXHI (imm4 w) },
    { mask := 0xFF0, pattern := 0xA50, build := fun w => .cpXLI (imm4 w) },
    { mask := 0xFF0, pattern := 0xA60, build := fun w => .cpYHI (imm4 w) },
    { mask := 0xFF0, pattern := 0xA70, build := fun w => .cpYLI (imm4 w) },
    { mask := 0xF00, pattern := 0xB00, build := fun w => .ldXE (imm8 w) },
    { mask := 0xFFC, pattern := 0xE80, build := fun w => .ldXPR (selLow w) },
    { mask := 0xFFC, pattern := 0xE84, build := fun w => .ldXHR (selLow w) },
    { mask := 0xFFC, pattern := 0xE88, build := fun w => .ldXLR (selLow w) },
    { mask := 0xFFC, pattern := 0xE90, build := fun w => .ldYPR (selLow w) },
    { mask := 0xFFC, pattern := 0xE94, build := fun w => .ldYHR (selLow w) },
    { mask := 0xFFC, pattern := 0xE98, build := fun w => .ldYLR (selLow w) },
    { mask := 0xFFC, pattern := 0xEA0, build := fun w => .ldRXP (selLow w) },
    { mask := 0xFFC, pattern := 0xEA4, build := fun w => .ldRXH (selLow w) },
    { mask := 0xFFC, pattern := 0xEA8, build := fun w => .ldRXL (selLow w) },
    { mask := 0xFFC, pattern := 0xEB0, build := fun w => .ldRYP (selLow w) },
    { mask := 0xFFC, pattern := 0xEB4, build := fun w => .ldRYH (selLow w) },
    { mask := 0xFFC, pattern := 0xEB8, build := fun w => .ldRYL (selLow w) } ]

/-- Data transfer instructions, spec/43_data_transfer.md (R100). -/
def transferRows : List DecodeRow :=
  [
    { mask := 0xF00, pattern := 0x900, build := fun w => .lbpxMXE (imm8 w) },
    { mask := 0xFC0, pattern := 0xE00, build := fun w => .ldRI (selHigh w) (imm4 w) },
    { mask := 0xFF0, pattern := 0xE60, build := fun w => .ldpxMXI (imm4 w) },
    { mask := 0xFF0, pattern := 0xE70, build := fun w => .ldpyMYI (imm4 w) },
    { mask := 0xFF0, pattern := 0xEC0, build := fun w => .ldRQ (selMid w) (selLow w) },
    { mask := 0xFF0, pattern := 0xEE0, build := fun w => .ldpxRQ (selMid w) (selLow w) },
    { mask := 0xFF0, pattern := 0xEF0, build := fun w => .ldpyRQ (selMid w) (selLow w) },
    { mask := 0xFF0, pattern := 0xF80, build := fun w => .ldMnA (imm4 w) },
    { mask := 0xFF0, pattern := 0xF90, build := fun w => .ldMnB (imm4 w) },
    { mask := 0xFF0, pattern := 0xFA0, build := fun w => .ldAMn (imm4 w) },
    { mask := 0xFF0, pattern := 0xFB0, build := fun w => .ldBMn (imm4 w) } ]

/-- Flag operation instructions, spec/44_flag.md (R100). -/
def flagRows : List DecodeRow :=
  [
    { mask := 0xFF0, pattern := 0xF40, build := fun w => .setF (imm4 w) },
    { mask := 0xFF0, pattern := 0xF50, build := fun w => .rstF (imm4 w) } ]

/-- Stack operation instructions, spec/45_stack.md (R100). -/
def stackRows : List DecodeRow :=
  [
    { mask := 0xFFC, pattern := 0xFC0, build := fun w => .pushR (selLow w) },
    { mask := 0xFFF, pattern := 0xFC4, build := fun _ => .pushXP },
    { mask := 0xFFF, pattern := 0xFC5, build := fun _ => .pushXH },
    { mask := 0xFFF, pattern := 0xFC6, build := fun _ => .pushXL },
    { mask := 0xFFF, pattern := 0xFC7, build := fun _ => .pushYP },
    { mask := 0xFFF, pattern := 0xFC8, build := fun _ => .pushYH },
    { mask := 0xFFF, pattern := 0xFC9, build := fun _ => .pushYL },
    { mask := 0xFFF, pattern := 0xFCA, build := fun _ => .pushF },
    { mask := 0xFFF, pattern := 0xFCB, build := fun _ => .decSP },
    { mask := 0xFFC, pattern := 0xFD0, build := fun w => .popR (selLow w) },
    { mask := 0xFFF, pattern := 0xFD4, build := fun _ => .popXP },
    { mask := 0xFFF, pattern := 0xFD5, build := fun _ => .popXH },
    { mask := 0xFFF, pattern := 0xFD6, build := fun _ => .popXL },
    { mask := 0xFFF, pattern := 0xFD7, build := fun _ => .popYP },
    { mask := 0xFFF, pattern := 0xFD8, build := fun _ => .popYH },
    { mask := 0xFFF, pattern := 0xFD9, build := fun _ => .popYL },
    { mask := 0xFFF, pattern := 0xFDA, build := fun _ => .popF },
    { mask := 0xFFF, pattern := 0xFDB, build := fun _ => .incSP },
    { mask := 0xFFC, pattern := 0xFE0, build := fun w => .ldSPHR (selLow w) },
    { mask := 0xFFC, pattern := 0xFE4, build := fun w => .ldRSPH (selLow w) },
    { mask := 0xFFC, pattern := 0xFF0, build := fun w => .ldSPLR (selLow w) },
    { mask := 0xFFC, pattern := 0xFF4, build := fun w => .ldRSPL (selLow w) } ]

/-- Arithmetic and logic instructions, spec/46_arithmetic.md (R100). RLC r repeats its selector, so its four words are four rows (R105). -/
def arithRows : List DecodeRow :=
  [
    { mask := 0xFF0, pattern := 0xA80, build := fun w => .addRQ (selMid w) (selLow w) },
    { mask := 0xFF0, pattern := 0xA90, build := fun w => .adcRQ (selMid w) (selLow w) },
    { mask := 0xFF0, pattern := 0xAA0, build := fun w => .subRQ (selMid w) (selLow w) },
    { mask := 0xFF0, pattern := 0xAB0, build := fun w => .sbcRQ (selMid w) (selLow w) },
    { mask := 0xFF0, pattern := 0xAC0, build := fun w => .andRQ (selMid w) (selLow w) },
    { mask := 0xFF0, pattern := 0xAD0, build := fun w => .orRQ (selMid w) (selLow w) },
    { mask := 0xFF0, pattern := 0xAE0, build := fun w => .xorRQ (selMid w) (selLow w) },
    { mask := 0xFFF, pattern := 0xAF0, build := fun _ => .rlcR .a },
    { mask := 0xFFF, pattern := 0xAF5, build := fun _ => .rlcR .b },
    { mask := 0xFFF, pattern := 0xAFA, build := fun _ => .rlcR .mx },
    { mask := 0xFFF, pattern := 0xAFF, build := fun _ => .rlcR .my },
    { mask := 0xFC0, pattern := 0xC00, build := fun w => .addRI (selHigh w) (imm4 w) },
    { mask := 0xFC0, pattern := 0xC40, build := fun w => .adcRI (selHigh w) (imm4 w) },
    { mask := 0xFC0, pattern := 0xC80, build := fun w => .andRI (selHigh w) (imm4 w) },
    { mask := 0xFC0, pattern := 0xCC0, build := fun w => .orRI (selHigh w) (imm4 w) },
    { mask := 0xFC0, pattern := 0xD00, build := fun w => .xorRI (selHigh w) (imm4 w) },
    { mask := 0xFC0, pattern := 0xD40, build := fun w => .sbcRI (selHigh w) (imm4 w) },
    { mask := 0xFC0, pattern := 0xD80, build := fun w => .fanRI (selHigh w) (imm4 w) },
    { mask := 0xFC0, pattern := 0xDC0, build := fun w => .cpRI (selHigh w) (imm4 w) },
    { mask := 0xFFC, pattern := 0xE8C, build := fun w => .rrcR (selLow w) },
    { mask := 0xFF0, pattern := 0xF00, build := fun w => .cpRQ (selMid w) (selLow w) },
    { mask := 0xFF0, pattern := 0xF10, build := fun w => .fanRQ (selMid w) (selLow w) },
    { mask := 0xFFC, pattern := 0xF28, build := fun w => .acpxMXR (selLow w) },
    { mask := 0xFFC, pattern := 0xF2C, build := fun w => .acpyMYR (selLow w) },
    { mask := 0xFFC, pattern := 0xF38, build := fun w => .scpxMXR (selLow w) },
    { mask := 0xFFC, pattern := 0xF3C, build := fun w => .scpyMYR (selLow w) },
    { mask := 0xFF0, pattern := 0xF60, build := fun w => .incMn (imm4 w) },
    { mask := 0xFF0, pattern := 0xF70, build := fun w => .decMn (imm4 w) } ]

/-- The 98 forms that are no alias, RLC r as four rows. No two of them share a word. -/
def generalRows : List DecodeRow :=
  branchRows ++ systemRows ++ indexRows ++ transferRows ++ flagRows ++ stackRows ++ arithRows

/-- The instruction of a word, or why there is none (R100, R104, R105). -/
def decode (w : InstrWord) : Except DecodeError Instr :=
  match (aliasRows ++ generalRows).find? (fun row => w &&& row.mask = row.pattern) with
  | some row => .ok (row.build w)
  | none => if w &&& 0xFF0 = 0xAF0 then .error .rlcFields else .error .undefinedWord

/-- The decoder on a table word numbered as spec/opcode_table.json numbers it. A program word has 12 bits, so
the bits a whole-byte count adds above bit 11 have no place in it. -/
def decodeTableWord (nbits w : Nat) : Option Instr :=
  match decode (BitVec.ofNat 12 (w % 2 ^ nbits)) with
  | .ok i => some i
  | .error _ => none


/-- The word of an instruction, field by field as R100 prints its pattern. -/
def encode : Instr → InstrWord
  | .jp s => 0b0000#4 ++ s
  | .retd e => 0b0001#4 ++ e
  | .jpC s => 0b0010#4 ++ s
  | .jpNC s => 0b0011#4 ++ s
  | .call s => 0b0100#4 ++ s
  | .calz s => 0b0101#4 ++ s
  | .jpZ s => 0b0110#4 ++ s
  | .jpNZ s => 0b0111#4 ++ s
  | .ldYE e => 0b1000#4 ++ e
  | .lbpxMXE e => 0b1001#4 ++ e
  | .adcXHI i => 0b10100000#8 ++ i
  | .adcXLI i => 0b10100001#8 ++ i
  | .adcYHI i => 0b10100010#8 ++ i
  | .adcYLI i => 0b10100011#8 ++ i
  | .cpXHI i => 0b10100100#8 ++ i
  | .cpXLI i => 0b10100101#8 ++ i
  | .cpYHI i => 0b10100110#8 ++ i
  | .cpYLI i => 0b10100111#8 ++ i
  | .addRQ r q => 0b10101000#8 ++ r.code ++ q.code
  | .adcRQ r q => 0b10101001#8 ++ r.code ++ q.code
  | .subRQ r q => 0b10101010#8 ++ r.code ++ q.code
  | .sbcRQ r q => 0b10101011#8 ++ r.code ++ q.code
  | .andRQ r q => 0b10101100#8 ++ r.code ++ q.code
  | .orRQ r q => 0b10101101#8 ++ r.code ++ q.code
  | .xorRQ r q => 0b10101110#8 ++ r.code ++ q.code
  | .rlcR r => 0b10101111#8 ++ r.code ++ r.code
  | .ldXE e => 0b1011#4 ++ e
  | .addRI r i => 0b110000#6 ++ r.code ++ i
  | .adcRI r i => 0b110001#6 ++ r.code ++ i
  | .andRI r i => 0b110010#6 ++ r.code ++ i
  | .orRI r i => 0b110011#6 ++ r.code ++ i
  | .xorRI r i => 0b110100#6 ++ r.code ++ i
  | .notR r => 0b110100#6 ++ r.code ++ 0b1111#4
  | .sbcRI r i => 0b110101#6 ++ r.code ++ i
  | .fanRI r i => 0b110110#6 ++ r.code ++ i
  | .cpRI r i => 0b110111#6 ++ r.code ++ i
  | .ldRI r i => 0b111000#6 ++ r.code ++ i
  | .pset p => 0b1110010#7 ++ p
  | .ldpxMXI i => 0b11100110#8 ++ i
  | .ldpyMYI i => 0b11100111#8 ++ i
  | .ldXPR r => 0b1110100000#10 ++ r.code
  | .ldXHR r => 0b1110100001#10 ++ r.code
  | .ldXLR r => 0b1110100010#10 ++ r.code
  | .rrcR r => 0b1110100011#10 ++ r.code
  | .ldYPR r => 0b1110100100#10 ++ r.code
  | .ldYHR r => 0b1110100101#10 ++ r.code
  | .ldYLR r => 0b1110100110#10 ++ r.code
  | .ldRXP r => 0b1110101000#10 ++ r.code
  | .ldRXH r => 0b1110101001#10 ++ r.code
  | .ldRXL r => 0b1110101010#10 ++ r.code
  | .ldRYP r => 0b1110101100#10 ++ r.code
  | .ldRYH r => 0b1110101101#10 ++ r.code
  | .ldRYL r => 0b1110101110#10 ++ r.code
  | .ldRQ r q => 0b11101100#8 ++ r.code ++ q.code
  | .ldpxRQ r q => 0b11101110#8 ++ r.code ++ q.code
  | .incX => 0b111011100000#12
  | .ldpyRQ r q => 0b11101111#8 ++ r.code ++ q.code
  | .incY => 0b111011110000#12
  | .cpRQ r q => 0b11110000#8 ++ r.code ++ q.code
  | .fanRQ r q => 0b11110001#8 ++ r.code ++ q.code
  | .acpxMXR r => 0b1111001010#10 ++ r.code
  | .acpyMYR r => 0b1111001011#10 ++ r.code
  | .scpxMXR r => 0b1111001110#10 ++ r.code
  | .scpyMYR r => 0b1111001111#10 ++ r.code
  | .setF i => 0b11110100#8 ++ i
  | .scf => 0b111101000001#12
  | .szf => 0b111101000010#12
  | .sdf => 0b111101000100#12
  | .ei => 0b111101001000#12
  | .rstF i => 0b11110101#8 ++ i
  | .di => 0b111101010111#12
  | .rdf => 0b111101011011#12
  | .rzf => 0b111101011101#12
  | .rcf => 0b111101011110#12
  | .incMn n => 0b11110110#8 ++ n
  | .decMn n => 0b11110111#8 ++ n
  | .ldMnA n => 0b11111000#8 ++ n
  | .ldMnB n => 0b11111001#8 ++ n
  | .ldAMn n => 0b11111010#8 ++ n
  | .ldBMn n => 0b11111011#8 ++ n
  | .pushR r => 0b1111110000#10 ++ r.code
  | .pushXP => 0b111111000100#12
  | .pushXH => 0b111111000101#12
  | .pushXL => 0b111111000110#12
  | .pushYP => 0b111111000111#12
  | .pushYH => 0b111111001000#12
  | .pushYL => 0b111111001001#12
  | .pushF => 0b111111001010#12
  | .decSP => 0b111111001011#12
  | .popR r => 0b1111110100#10 ++ r.code
  | .popXP => 0b111111010100#12
  | .popXH => 0b111111010101#12
  | .popXL => 0b111111010110#12
  | .popYP => 0b111111010111#12
  | .popYH => 0b111111011000#12
  | .popYL => 0b111111011001#12
  | .popF => 0b111111011010#12
  | .incSP => 0b111111011011#12
  | .rets => 0b111111011110#12
  | .ret => 0b111111011111#12
  | .ldSPHR r => 0b1111111000#10 ++ r.code
  | .ldRSPH r => 0b1111111001#10 ++ r.code
  | .jpba => 0b111111101000#12
  | .ldSPLR r => 0b1111111100#10 ++ r.code
  | .ldRSPL r => 0b1111111101#10 ++ r.code
  | .halt => 0b111111111000#12
  | .slp => 0b111111111001#12
  | .nop5 => 0b111111111011#12
  | .nop7 => 0b111111111111#12

/-- The row of spec/opcode_table.json an instruction stands in, counted from 0 (the names ISUBSET is made of, R106). -/
def Instr.row : Instr → Nat
  | .jp _ => 0
  | .retd _ => 1
  | .jpC _ => 2
  | .jpNC _ => 3
  | .call _ => 4
  | .calz _ => 5
  | .jpZ _ => 6
  | .jpNZ _ => 7
  | .ldYE _ => 8
  | .lbpxMXE _ => 9
  | .adcXHI _ => 10
  | .adcXLI _ => 11
  | .adcYHI _ => 12
  | .adcYLI _ => 13
  | .cpXHI _ => 14
  | .cpXLI _ => 15
  | .cpYHI _ => 16
  | .cpYLI _ => 17
  | .addRQ _ _ => 18
  | .adcRQ _ _ => 19
  | .subRQ _ _ => 20
  | .sbcRQ _ _ => 21
  | .andRQ _ _ => 22
  | .orRQ _ _ => 23
  | .xorRQ _ _ => 24
  | .rlcR _ => 25
  | .ldXE _ => 26
  | .addRI _ _ => 27
  | .adcRI _ _ => 28
  | .andRI _ _ => 29
  | .orRI _ _ => 30
  | .xorRI _ _ => 31
  | .notR _ => 32
  | .sbcRI _ _ => 33
  | .fanRI _ _ => 34
  | .cpRI _ _ => 35
  | .ldRI _ _ => 36
  | .pset _ => 37
  | .ldpxMXI _ => 38
  | .ldpyMYI _ => 39
  | .ldXPR _ => 40
  | .ldXHR _ => 41
  | .ldXLR _ => 42
  | .rrcR _ => 43
  | .ldYPR _ => 44
  | .ldYHR _ => 45
  | .ldYLR _ => 46
  | .ldRXP _ => 47
  | .ldRXH _ => 48
  | .ldRXL _ => 49
  | .ldRYP _ => 50
  | .ldRYH _ => 51
  | .ldRYL _ => 52
  | .ldRQ _ _ => 53
  | .ldpxRQ _ _ => 54
  | .incX => 55
  | .ldpyRQ _ _ => 56
  | .incY => 57
  | .cpRQ _ _ => 58
  | .fanRQ _ _ => 59
  | .acpxMXR _ => 60
  | .acpyMYR _ => 61
  | .scpxMXR _ => 62
  | .scpyMYR _ => 63
  | .setF _ => 64
  | .scf => 65
  | .szf => 66
  | .sdf => 67
  | .ei => 68
  | .rstF _ => 69
  | .di => 70
  | .rdf => 71
  | .rzf => 72
  | .rcf => 73
  | .incMn _ => 74
  | .decMn _ => 75
  | .ldMnA _ => 76
  | .ldMnB _ => 77
  | .ldAMn _ => 78
  | .ldBMn _ => 79
  | .pushR _ => 80
  | .pushXP => 81
  | .pushXH => 82
  | .pushXL => 83
  | .pushYP => 84
  | .pushYH => 85
  | .pushYL => 86
  | .pushF => 87
  | .decSP => 88
  | .popR _ => 89
  | .popXP => 90
  | .popXH => 91
  | .popXL => 92
  | .popYP => 93
  | .popYH => 94
  | .popYL => 95
  | .popF => 96
  | .incSP => 97
  | .rets => 98
  | .ret => 99
  | .ldSPHR _ => 100
  | .ldRSPH _ => 101
  | .jpba => 102
  | .ldSPLR _ => 103
  | .ldRSPL _ => 104
  | .halt => 105
  | .slp => 106
  | .nop5 => 107
  | .nop7 => 108

/-- Clock cycles of an instruction (R102, the clk column of R100; R365). No step uses it. -/
def Instr.clocks : Instr → Nat
  | .jp _ => 5
  | .retd _ => 12
  | .jpC _ => 5
  | .jpNC _ => 5
  | .call _ => 7
  | .calz _ => 7
  | .jpZ _ => 5
  | .jpNZ _ => 5
  | .ldYE _ => 5
  | .lbpxMXE _ => 5
  | .adcXHI _ => 7
  | .adcXLI _ => 7
  | .adcYHI _ => 7
  | .adcYLI _ => 7
  | .cpXHI _ => 7
  | .cpXLI _ => 7
  | .cpYHI _ => 7
  | .cpYLI _ => 7
  | .addRQ _ _ => 7
  | .adcRQ _ _ => 7
  | .subRQ _ _ => 7
  | .sbcRQ _ _ => 7
  | .andRQ _ _ => 7
  | .orRQ _ _ => 7
  | .xorRQ _ _ => 7
  | .rlcR _ => 7
  | .ldXE _ => 5
  | .addRI _ _ => 7
  | .adcRI _ _ => 7
  | .andRI _ _ => 7
  | .orRI _ _ => 7
  | .xorRI _ _ => 7
  | .notR _ => 7
  | .sbcRI _ _ => 7
  | .fanRI _ _ => 7
  | .cpRI _ _ => 7
  | .ldRI _ _ => 5
  | .pset _ => 5
  | .ldpxMXI _ => 5
  | .ldpyMYI _ => 5
  | .ldXPR _ => 5
  | .ldXHR _ => 5
  | .ldXLR _ => 5
  | .rrcR _ => 5
  | .ldYPR _ => 5
  | .ldYHR _ => 5
  | .ldYLR _ => 5
  | .ldRXP _ => 5
  | .ldRXH _ => 5
  | .ldRXL _ => 5
  | .ldRYP _ => 5
  | .ldRYH _ => 5
  | .ldRYL _ => 5
  | .ldRQ _ _ => 5
  | .ldpxRQ _ _ => 5
  | .incX => 5
  | .ldpyRQ _ _ => 5
  | .incY => 5
  | .cpRQ _ _ => 7
  | .fanRQ _ _ => 7
  | .acpxMXR _ => 7
  | .acpyMYR _ => 7
  | .scpxMXR _ => 7
  | .scpyMYR _ => 7
  | .setF _ => 7
  | .scf => 7
  | .szf => 7
  | .sdf => 7
  | .ei => 7
  | .rstF _ => 7
  | .di => 7
  | .rdf => 7
  | .rzf => 7
  | .rcf => 7
  | .incMn _ => 7
  | .decMn _ => 7
  | .ldMnA _ => 5
  | .ldMnB _ => 5
  | .ldAMn _ => 5
  | .ldBMn _ => 5
  | .pushR _ => 5
  | .pushXP => 5
  | .pushXH => 5
  | .pushXL => 5
  | .pushYP => 5
  | .pushYH => 5
  | .pushYL => 5
  | .pushF => 5
  | .decSP => 5
  | .popR _ => 5
  | .popXP => 5
  | .popXH => 5
  | .popXL => 5
  | .popYP => 5
  | .popYH => 5
  | .popYL => 5
  | .popF => 5
  | .incSP => 5
  | .rets => 12
  | .ret => 7
  | .ldSPHR _ => 5
  | .ldRSPH _ => 5
  | .jpba => 5
  | .ldSPLR _ => 5
  | .ldRSPL _ => 5
  | .halt => 5
  | .slp => 5
  | .nop5 => 5
  | .nop7 => 7

end Sys2Proof
end

