-- ==== Sys2Proof/Config.lean ====
section
/-!
DEFINITION. What a device fixes around the core (the parameters of spec/00_scope.md R5 that are data: VARIANT,
DMEM_MAP, ISUBSET), and the free values: the points the spec leaves open where the machine goes on. A free value
is an `opaque` constant with no body, so that a theorem about it holds for every value it could have.
-/

namespace Sys2Proof

/-- The parameter VARIANT (R2, R5). -/
inductive Variant where
  | e0c6200
  | e0c6200A
  deriving DecidableEq, Repr

/-- What stands at a data address (the parameter DMEM_MAP, R5, R64). The two interrupt-register kinds are
peripheral registers that R325 and R357 single out. DESIGN CHOICE (log entry 19): an address is of one kind, so that none
holds both interrupt mask bits and interrupt factor flags; the spec leaves their addresses and bits to the device (R320). -/
inductive RegionKind where
  /-- RAM: reads return the word last written (R64). -/
  | ram
  /-- A peripheral register: its reads and writes are PERIPH's (R64). -/
  | peripheral
  /-- A peripheral register that is an interrupt mask register (R320, R325). -/
  | interruptMask
  /-- A peripheral register that is an interrupt factor flag (R320, R325). -/
  | interruptFactor
  /-- Neither RAM nor a peripheral (R64, DMEM_UNMAPPED). -/
  | unmapped
  deriving DecidableEq, Repr

/-- A run of data addresses, `first` to `last` inclusive, of one kind. -/
structure Region where
  first : Nat
  last  : Nat
  kind  : RegionKind
  deriving DecidableEq, Repr

/-- The device around the core, as data (R5). No step changes it. -/
structure Device where
  /-- VARIANT (R2). -/
  variant : Variant
  /-- DMEM_MAP: the first region that covers an address gives its kind; an address no region covers is RAM. -/
  dmemMap : List Region
  /-- ISUBSET, by what it leaves out: the row numbers (`Instr.row`) of the instructions the device lacks (R106). Of a
  word with two names (R99) the alias's row alone counts: DESIGN CHOICE, log entry 18. -/
  lacking : List Nat
  deriving DecidableEq, Repr

/-- The closed-system default of 92_eei_decisions.md D1 and D2: E0C6200A, RAM at all 4,096 data addresses, all
109 instructions. -/
def Device.closed : Device := { variant := .e0c6200A, dmemMap := [], lacking := [] }

/-- Free value (UNVERIFIED which; any value is allowed): what a RAM word that nothing has written since reset
number `n` holds, by `n` and address (R33, R35, U2). Log entry 4. -/
opaque Config.ramAtReset : Nat → Nat → Nibble

/-- Free value: what the `n`-th access to a peripheral address returns if it is a read, by `n` and address
(PERIPH of R5; R64, U20). Log entry 8. -/
opaque Config.periphRead : Nat → Nat → Nibble

/-- Free value: IDELAY after a SET F,i with i3 = 1 that finds I = 1, or a POP F that turns I from 0 to 1
(IDELAY_OTHER: R42, R200, R232, U5), by the number of free choices made so far. Log entry 5. -/
opaque Config.idelayOther : Nat → Bool

/-- Free value: whether a RETD whose stores overlap the stack words it pops stores before it pops (RETD_OVERLAP:
R131, U6), by the number of free choices made so far. Log entry 6. -/
opaque Config.retdStoresFirst : Nat → Bool

end Sys2Proof
end

