-- ==== Sys2Proof/Machine/State.lean ====
section
/-!
DEFINITION. The state of the machine as plain data (spec/10_state.md R20 to R46), the reasons a step can stop, and
the machine right after reset (R34, spec/70_reset_and_hazards.md R340).
-/

namespace Sys2Proof.Machine

/-- Why a step has no successor although the spec names the case. -/
inductive Fault where
  /-- Raised by the fetch when the word is no instruction or the device lacks the instruction (R104, R106, U3,
  U10; 92_eei_decisions.md D2, D20). Safe: the hardware goes on in some way the spec does not give. -/
  | undefinedOpcode (word : InstrWord)
  /-- Raised by the fetch of an RLC word with unequal selectors (R105, U4, D20). Safe, for the same reason. -/
  | rlcFields (word : InstrWord)
  /-- Raised by the fetch when the device has no ROM at the address (R61, U9). Safe: what is fetched is not given. -/
  | romUnmapped (address : ProgAddr)
  /-- Raised by a data access, of an instruction or of interrupt entry, to an address with neither RAM nor a
  peripheral (R64, U8, D15). Safe: the hardware goes on in some way the spec does not give. -/
  | dmemUnmapped (address : DataAddr)
  deriving DecidableEq, Repr

/-- Why a step is refused. -/
inductive Refusal where
  /-- Raised only by an arm of `exec` whose instruction has no meaning yet. No arm does. Safe. -/
  | notModelled (mnemonic : String)
  /-- Raised on an E0C6200 by a data access that writes an interrupt mask register or reads an interrupt factor
  flag while I = 1, which the manual calls "Not possible" (R325, R357, U13). Safe: the run is outside the spec. -/
  | interruptRegisterAtEI (address : DataAddr)
  deriving DecidableEq, Repr

/-- A reason to stop, of either kind. -/
inductive Stop where
  /-- A fault, raised as its constructor says. Safe as that constructor says. -/
  | fault (f : Fault)
  /-- A refusal, raised as its constructor says. Safe as that constructor says. -/
  | refusal (r : Refusal)
  deriving DecidableEq, Repr

/-- RUNSTATE (R43). -/
inductive RunState where
  | run
  | halt
  | sleep
  deriving DecidableEq, Repr

/-- One access of the core to a peripheral address, as an observer outside the core sees it (R46, R80). -/
inductive BusEvent where
  | read (address : DataAddr) (value : Nibble)
  | write (address : DataAddr) (value : Nibble)
  deriving DecidableEq, Repr

/-- What the environment presents at one instruction boundary (R5, R44, R341): whether reset is asserted, and the
interrupt request. `irq = some v` requests vector number `v + 1`, one of 1 to 15 (R310, R313). -/
structure BoundaryInput where
  reset : Bool
  irq   : Option (Fin 15)
  deriving DecidableEq, Repr

/-- A boundary at which nothing is asserted (92_eei_decisions.md D1). -/
def BoundaryInput.quiet : BoundaryInput := { reset := false, irq := none }

/-- The complete state (R20), with the parameters of R5 that are data and the model's own counts. INVENTORY.md
lists each field with its rule and its reset value. -/
structure State where
  /-- Accumulator A (R21). -/
  a : Nibble
  /-- Accumulator B (R22). -/
  b : Nibble
  /-- Page part of IX (R23). -/
  xp : Nibble
  /-- High four bits of X (R23). -/
  xh : Nibble
  /-- Low four bits of X (R23). -/
  xl : Nibble
  /-- Page part of IY (R24). -/
  yp : Nibble
  /-- High four bits of Y (R24). -/
  yh : Nibble
  /-- Low four bits of Y (R24). -/
  yl : Nibble
  /-- Stack pointer, SPH : SPL (R25). -/
  sp : BitVec 8
  /-- Program counter bank (R26). -/
  pcb : BitVec 1
  /-- Program counter page (R26). -/
  pcp : Nibble
  /-- Program counter step (R26). -/
  pcs : BitVec 8
  /-- New bank pointer (R28). -/
  nbp : BitVec 1
  /-- New page pointer (R28). -/
  npp : Nibble
  /-- Interrupt flag I (R30). -/
  fi : Bool
  /-- Decimal flag D (R30). -/
  fd : Bool
  /-- Zero flag Z (R30). -/
  fz : Bool
  /-- Carry flag C (R30). -/
  fc : Bool
  /-- Register pointer RP; no instruction reads it (R31). -/
  rp : Nibble
  /-- ALU input latch TEMP A; no instruction reads it (R32). -/
  tempA : Nibble
  /-- ALU input latch TEMP B; no instruction reads it (R32). -/
  tempB : Nibble
  /-- RAM: the words written since reset (R33, R64). -/
  ram : Memory 4
  /-- Program memory: the words the ROM has (R33, R61). -/
  rom : Memory 12
  /-- PSETF: the previous instruction was PSET (R41). -/
  psetf : Bool
  /-- IDELAY: interrupts not yet enabled after EI (R42). -/
  idelay : Bool
  /-- RUNSTATE (R43). -/
  runState : RunState
  /-- The device around the core (R5). No step changes it. -/
  device : Device
  /-- The inputs of the coming boundaries, the next one first; none listed reads as quiet (R44, R341). -/
  inputs : List BoundaryInput
  /-- The accesses made so far to peripheral addresses, newest first (R46). -/
  bus : List BusEvent
  /-- The model's own count of free choices made, the argument of `Config.idelayOther` and
  `Config.retdStoresFirst`. -/
  draws : Nat
  /-- The model's own count of resets seen, an argument of `Config.ramAtReset`. -/
  resets : Nat
  deriving DecidableEq, Repr

/-- The machine right after reset: the values of Table 2.5.4.1 (R34, R340) where it gives one, and 0 (DESIGN
CHOICE, log entry 1) where it says "Undefined"; no RAM word written; no ROM, inputs or peripheral accesses; the
closed device of 92_eei_decisions.md D1. -/
def State.reset : State where
  a := 0
  b := 0
  xp := 0
  xh := 0
  xl := 0
  yp := 0
  yh := 0
  yl := 0
  sp := 0
  pcb := 0
  pcp := 1
  pcs := 0
  nbp := 0
  npp := 1
  fi := false
  fd := false
  fz := false
  fc := false
  rp := 0
  tempA := 0
  tempB := 0
  ram := []
  rom := []
  psetf := false
  idelay := false
  runState := .run
  device := Device.closed
  inputs := []
  bus := []
  draws := 0
  resets := 0

end Sys2Proof.Machine
end

