-- ==== Sys2Proof/Machine/Flags.lean ====
section
/-!
DEFINITION. The ALU functions and the flag register as a value: ADD4, SUB4 (spec/46_arithmetic.md R245, R246), the
logic operations and rotates with the flags they give (R257 to R268), and F = I : D : Z : C (spec/10_state.md R29).
-/

namespace Sys2Proof.Machine

/-- What the ALU gives: the 4-bit output, the carry or borrow, and the zero flag. -/
structure AluOut where
  out : Nibble
  c   : Bool
  z   : Bool
  deriving DecidableEq, Repr

/-- ADD4(a, b, cin, dec) (R245). -/
def add4 (a b : Nibble) (cin dec : Bool) : AluOut :=
  let s := a.toNat + b.toNat + cin.toNat
  let out : Nibble := if dec = true ∧ 10 ≤ s then BitVec.ofNat 4 (s - 10) else BitVec.ofNat 4 s
  let c := if dec = true ∧ 10 ≤ s then true else decide (16 ≤ s)
  { out := out, c := c, z := decide (out = 0) }

/-- SUB4(a, b, bin, dec) (R246); `c` is the borrow. -/
def sub4 (a b : Nibble) (bin dec : Bool) : AluOut :=
  let d : Int := a.toNat - b.toNat - bin.toNat
  let out : Nibble := if dec = true ∧ d < 0 then BitVec.ofInt 4 (d + 10) else BitVec.ofInt 4 d
  { out := out, c := decide (d < 0), z := decide (out = 0) }

/-- The Z flag of a logic result (R257 to R262): set exactly when the result is 0000. -/
def zeroFlag (out : Nibble) : Bool := decide (out = 0)

/-- RLC: bits 2 to 0 move up and the old C becomes bit 0; bit 3 is the new C (R267). -/
def rotateLeft (a : Nibble) (c : Bool) : Nibble × Bool :=
  (a.extractLsb' 0 3 ++ BitVec.ofBool c, a.getLsbD 3)

/-- RRC: bits 3 to 1 move down and the old C becomes bit 3; bit 0 is the new C (R268). -/
def rotateRight (a : Nibble) (c : Bool) : Nibble × Bool :=
  (BitVec.ofBool c ++ a.extractLsb' 1 3, a.getLsbD 0)

/-- The flag register as a 4-bit value: bit 3 = I, bit 2 = D, bit 1 = Z, bit 0 = C (R29). -/
def State.flags (s : State) : Nibble :=
  BitVec.ofBool s.fi ++ BitVec.ofBool s.fd ++ BitVec.ofBool s.fz ++ BitVec.ofBool s.fc

/-- All four flags written from a 4-bit value (R29, R232). -/
def State.setFlags (s : State) (v : Nibble) : State :=
  { s with fi := v.getLsbD 3, fd := v.getLsbD 2, fz := v.getLsbD 1, fc := v.getLsbD 0 }

/-- C and Z written. -/
def State.setCZ (s : State) (c z : Bool) : State := { s with fc := c, fz := z }

/-- C written alone. -/
def State.setC (s : State) (c : Bool) : State := { s with fc := c }

/-- Z written alone. -/
def State.setZ (s : State) (z : Bool) : State := { s with fz := z }

end Sys2Proof.Machine
end

