-- ==== Sys2Proof/Machine/Memory.lean ====
section
/-!
DEFINITION. The operations on a memory, a list of (address, value) pairs with the addresses strictly rising, and
the check that a memory has that form.
-/

namespace Sys2Proof

/-- The value held at an address; `none` where the memory lists none. This is the one definition of what an
unlisted address reads as: no value. -/
def Memory.lookup {w : Nat} : Memory w → Nat → Option (BitVec w)
  | [], _ => none
  | (k, v) :: rest, a => if k = a then some v else Memory.lookup rest a

/-- The memory with a value put at an address, in its place in the rising order. -/
def Memory.store {w : Nat} : Memory w → Nat → BitVec w → Memory w
  | [], a, v => [(a, v)]
  | (k, x) :: rest, a, v =>
    if a < k then (a, v) :: (k, x) :: rest
    else if a = k then (a, v) :: rest
    else (k, x) :: Memory.store rest a v

/-- Addresses strictly rising, the first at least `low`, all below `limit`. -/
def Memory.wfFrom {w : Nat} (low limit : Nat) : Memory w → Bool
  | [] => true
  | (k, _) :: rest => decide (low ≤ k) && decide (k < limit) && Memory.wfFrom (k + 1) limit rest

/-- The canonical form of a memory of `limit` addresses: addresses strictly rising and in range. An entry is
never equal to what an unlisted address reads as, which is no value. -/
def Memory.wf {w : Nat} (limit : Nat) (m : Memory w) : Bool := Memory.wfFrom 0 limit m

end Sys2Proof
end

