-- ==== Sys2Proof/Machine/Ops.lean ====
section
/-!
DEFINITION. The named operations over memory, the program counter and the stack (spec/20_memory.md,
spec/10_state.md), and taking an interrupt and returning from one (spec/60_exceptions.md R310 to R318): the one
event that changes control flow outside the instruction stream (R300).
-/

namespace Sys2Proof.Machine

/-- What an operation gives: a result, or the reason it stops. -/
abbrev Res (α : Type) := Except Stop α

/-- The outcome of an instruction from what its meaning gives. -/
def finish : Res State → Host.Outcome State Fault Refusal
  | .ok s => .next s
  | .error (.fault f) => .fault f
  | .error (.refusal r) => .refused r

/-! ### Data memory (R64) -/

/-- What stands at a data address (DMEM_MAP, R5, R64). -/
def kindAt (d : Device) (addr : DataAddr) : RegionKind :=
  match d.dmemMap.find? (fun g => decide (g.first ≤ addr.toNat) && decide (addr.toNat ≤ g.last)) with
  | some g => g.kind
  | none => .ram

/-- Why a read of a data address has no successor, if so: nothing is there (U8), or it is an interrupt factor flag
of an E0C6200 with I = 1 (R325, U13). -/
def State.readStop (s : State) (addr : DataAddr) : Option Stop :=
  match kindAt s.device addr with
  | .unmapped => some (.fault (.dmemUnmapped addr))
  | .interruptFactor =>
    if s.device.variant = .e0c6200 ∧ s.fi = true then some (.refusal (.interruptRegisterAtEI addr)) else none
  | .ram => none
  | .peripheral => none
  | .interruptMask => none

/-- Why a write of a data address has no successor, if so: nothing is there (U8), or it is an interrupt mask
register of an E0C6200 with I = 1 (R325, U13). -/
def State.writeStop (s : State) (addr : DataAddr) : Option Stop :=
  match kindAt s.device addr with
  | .unmapped => some (.fault (.dmemUnmapped addr))
  | .interruptMask =>
    if s.device.variant = .e0c6200 ∧ s.fi = true then some (.refusal (.interruptRegisterAtEI addr)) else none
  | .ram => none
  | .peripheral => none
  | .interruptFactor => none

/-- The RAM word at an address: the word last written, or the unknown word it held since reset (R33, R35, R64). -/
def State.ramWord (s : State) (addr : DataAddr) : Nibble :=
  (s.ram.lookup addr.toNat).getD (Config.ramAtReset s.resets addr.toNat)

/-- What a read of a data address gives (R64): the RAM word, or what the peripheral answers to this access. -/
def State.readValue (s : State) (addr : DataAddr) : Nibble :=
  if kindAt s.device addr = .ram then s.ramWord addr else Config.periphRead s.bus.length addr.toNat

/-- The state after a read (R64): RAM has no side effect; a peripheral sees the access (R80). -/
def State.afterRead (s : State) (addr : DataAddr) : State :=
  if kindAt s.device addr = .ram then s else { s with bus := .read addr (s.readValue addr) :: s.bus }

/-- The state after a write (R64): the RAM word becomes `v`, or a peripheral sees the access (R80). -/
def State.afterWrite (s : State) (addr : DataAddr) (v : Nibble) : State :=
  if kindAt s.device addr = .ram then { s with ram := s.ram.store addr.toNat v }
  else { s with bus := .write addr v :: s.bus }

/-- MemRead(addr, 1) (R64). -/
def State.memRead (s : State) (addr : DataAddr) : Res (Nibble × State) :=
  match s.readStop addr with
  | some e => .error e
  | none => .ok (s.readValue addr, s.afterRead addr)

/-- MemWrite(addr, 1, v) (R64). -/
def State.memWrite (s : State) (addr : DataAddr) (v : Nibble) : Res State :=
  match s.writeStop addr with
  | some e => .error e
  | none => .ok (s.afterWrite addr v)

/-! ### The program counter (R26, R27) and the pending bits (R41, R42, R45) -/

/-- PC12 = PCP : PCS (R8). -/
def State.pc12 (s : State) : BitVec 12 := s.pcp ++ s.pcs

/-- The 13-bit program address PCB : PCP : PCS (R26). -/
def State.pc (s : State) : ProgAddr := s.pcb ++ s.pcp ++ s.pcs

/-- PC12 written: PCP from bits 11 to 8, PCS from bits 7 to 0; PCB stays (R8). -/
def State.setPC12 (s : State) (v : BitVec 12) : State :=
  { s with pcp := v.extractLsb' 8 4, pcs := v.extractLsb' 0 8 }

/-- NextPC: PC12 + 1 modulo 4096, PCB unchanged (R27, D6). -/
def State.nextPC (s : State) : State := s.setPC12 (s.pc12 + 1)

/-- What every instruction does first: PSETF and IDELAY cleared (R45). -/
def State.begun (s : State) : State := { s with psetf := false, idelay := false }

/-- JumpBankPage(P): bank and page from NBP and NPP right after PSET, unchanged otherwise (R132). -/
def State.jumpBankPage (s : State) (p : Bool) : State :=
  if p = true then { s with pcb := s.nbp, pcp := s.npp } else s

/-- CallPage(P): page from NPP right after PSET, unchanged otherwise; the bank never changes (R132). -/
def State.callPage (s : State) (p : Bool) : State := if p = true then { s with pcp := s.npp } else s

/-! ### The stack (R70 to R72) -/

/-- The data address SP forms: page 0 (R25, R65). -/
def stackAddr (sp : BitVec 8) : DataAddr := 0#4 ++ sp

/-- SP written (R25). -/
def State.setSP (s : State) (v : BitVec 8) : State := { s with sp := v }

/-- Push1(v): SP down by 1, then a write at the new SP (R71). -/
def State.push1 (s : State) (v : Nibble) : Res State :=
  (s.setSP (s.sp - 1)).memWrite (stackAddr (s.sp - 1)) v

/-- Pop1(): a read at SP, then SP up by 1 (R71). -/
def State.pop1 (s : State) : Res (Nibble × State) := do
  let (v, s) ← s.memRead (stackAddr s.sp)
  return (v, s.setSP (s.sp + 1))

/-- PushRet(R): page, step high, step low below SP, highest address first (D18, log entry 12), then SP down by 3 (R72). -/
def State.pushRet (s : State) (ret : BitVec 12) : Res State := do
  let s ← s.memWrite (stackAddr (s.sp - 1)) (ret.extractLsb' 8 4)
  let s ← s.memWrite (stackAddr (s.sp - 2)) (ret.extractLsb' 4 4)
  let s ← s.memWrite (stackAddr (s.sp - 3)) (ret.extractLsb' 0 4)
  return s.setSP (s.sp - 3)

/-- PopRet(): step low, step high, page from SP upward (D18, log entry 12), then SP up by 3; the value is
page : high : low (R72). -/
def State.popRet (s : State) : Res (BitVec 12 × State) := do
  let (lo, s) ← s.memRead (stackAddr s.sp)
  let (hi, s) ← s.memRead (stackAddr (s.sp + 1))
  let (pg, s) ← s.memRead (stackAddr (s.sp + 2))
  return (pg ++ hi ++ lo, s.setSP (s.sp + 3))

/-! ### Taking an interrupt (R311, R312) and returning from one (R316) -/

/-- When a request is accepted: I = 1, IDELAY = 0, PSETF = 0 (R311), in any run state (R315). -/
def State.acceptsInterrupt (s : State) : Bool := s.fi && !s.idelay && !s.psetf

/-- The step a vector number is reached at: request `v` is vector number `v + 1`, at that step (R313). -/
def vectorStep (v : Fin 15) : BitVec 8 := BitVec.ofNat 8 (v.val + 1)

/-- InterruptEntry(v) (R312): the return address PCP : PCS pushed, I cleared, NPP and PCP 1, PCS the vector's step,
PSETF and IDELAY cleared, RUN. PCB, NBP, the registers and C, Z, D stay. -/
def State.interruptEntry (s : State) (v : Fin 15) : Res State := do
  let s ← s.pushRet s.pc12
  return { s with
    fi := false, npp := 1, pcp := 1, pcs := vectorStep v, psetf := false, idelay := false, runState := .run }

/-- The return all of RET, RETS and RETD start from: the popped address in PC12, PCB unchanged (R129, R316). There
is no other return from an interrupt. -/
def State.returnFromStack (s : State) : Res State := do
  let (ret, s) ← s.popRet
  return s.setPC12 ret

end Sys2Proof.Machine
end

