-- ==== Sys2Proof/Machine/Operands.lean ====
section
/-!
DEFINITION. The operand forms: the four data addresses of spec/20_memory.md R65, the operand selector of
spec/30_encoding.md R96, the index registers with their post-increment (spec/10_state.md R23, R24; R68), and the
shapes that several ALU and load instructions share.
-/

namespace Sys2Proof.Machine

/-! ### Addresses (R65) and index registers (R23, R24) -/

/-- The direct address `0000 0000 : n` of `Mn` (R65, R69). -/
def directAddr (n : Nibble) : DataAddr := 0#8 ++ n

/-- X = XHL = XH : XL (R23). -/
def State.xhl (s : State) : BitVec 8 := s.xh ++ s.xl

/-- Y = YHL = YH : YL (R24). -/
def State.yhl (s : State) : BitVec 8 := s.yh ++ s.yl

/-- IX = XP : XH : XL, the address of MX (R23, R65). -/
def State.ix (s : State) : DataAddr := s.xp ++ s.xhl

/-- IY = YP : YH : YL, the address of MY (R24, R65). -/
def State.iy (s : State) : DataAddr := s.yp ++ s.yhl

/-- `XP : (X + 1 mod 256)`, the second word of LBPX and RETD: same page (R68). -/
def State.ixNext (s : State) : DataAddr := s.xp ++ (s.xhl + 1)

/-- X written; XP unchanged (R23). -/
def State.setXhl (s : State) (v : BitVec 8) : State :=
  { s with xh := v.extractLsb' 4 4, xl := v.extractLsb' 0 4 }

/-- Y written; YP unchanged (R24). -/
def State.setYhl (s : State) (v : BitVec 8) : State :=
  { s with yh := v.extractLsb' 4 4, yl := v.extractLsb' 0 4 }

/-- X up by `k` modulo 256; XP and the flags unchanged (R23). -/
def State.bumpX (s : State) (k : BitVec 8) : State := s.setXhl (s.xhl + k)

/-- Y up by 1 modulo 256; YP and the flags unchanged (R24). -/
def State.bumpY (s : State) : State := s.setYhl (s.yhl + 1)

/-! ### The operand selector (R96) -/

/-- RegRead(c) (R96). -/
def State.regRead (s : State) : Reg → Res (Nibble × State)
  | .a  => .ok (s.a, s)
  | .b  => .ok (s.b, s)
  | .mx => s.memRead s.ix
  | .my => s.memRead s.iy

/-- RegWrite(c, v) (R96). -/
def State.regWrite (s : State) (r : Reg) (v : Nibble) : Res State :=
  match r with
  | .a  => .ok { s with a := v }
  | .b  => .ok { s with b := v }
  | .mx => s.memWrite s.ix v
  | .my => s.memWrite s.iy v

/-- The second operand of a two-operand instruction: an immediate `i` or a selector `q` (R92). -/
inductive Src where
  | imm (i : Nibble)
  | reg (q : Reg)
  deriving DecidableEq, Repr

/-- The value of a second operand. -/
def State.srcRead (s : State) : Src → Res (Nibble × State)
  | .imm i => .ok (i, s)
  | .reg q => s.regRead q

/-- The ALU's input latches loaded with its two inputs (R32; DEDUCED which latch gets which, log entry 7). -/
def State.latch (s : State) (x y : Nibble) : State := { s with tempA := x, tempB := y }

/-- The ALU's first input latch loaded alone, by an operation with one input (R32; log entry 7). -/
def State.latchA (s : State) (x : Nibble) : State := { s with tempA := x }

/-- RP loaded with the operand of a direct-addressing instruction (R31; log entry 7). -/
def State.loadRP (s : State) (n : Nibble) : State := { s with rp := n }

/-! ### Shared shapes -/

/-- r ← f(r, source), C and Z from `f`: destination read first, then the source, then the write, each once (R75; the
spec's decision D18, log entry 12, as for the shapes below). -/
def State.arith (s : State) (f : Nibble → Nibble → AluOut) (r : Reg) (src : Src) : Res State := do
  let (x, s) ← s.regRead r
  let (y, s) ← s.srcRead src
  let s ← (s.latch x y).regWrite r (f x y).out
  return (s.setCZ (f x y).c (f x y).z).nextPC

/-- r ← f(r, source), Z from the result, C not affected (R257 to R262, R287). -/
def State.logic (s : State) (f : Nibble → Nibble → Nibble) (r : Reg) (src : Src) : Res State := do
  let (x, s) ← s.regRead r
  let (y, s) ← s.srcRead src
  let s ← (s.latch x y).regWrite r (f x y)
  return (s.setZ (zeroFlag (f x y))).nextPC

/-- r - source for C and Z only, hexadecimal, incoming C ignored; nothing written (R263, R264). -/
def State.compare (s : State) (r : Reg) (src : Src) : Res State := do
  let (x, s) ← s.regRead r
  let (y, s) ← s.srcRead src
  return ((s.latch x y).setCZ (sub4 x y false false).c (sub4 x y false false).z).nextPC

/-- r AND source for Z only; nothing written (R265, R266). -/
def State.testBits (s : State) (r : Reg) (src : Src) : Res State := do
  let (x, s) ← s.regRead r
  let (y, s) ← s.srcRead src
  return ((s.latch x y).setZ (zeroFlag (x &&& y))).nextPC

/-- word ← f(word, r), C and Z from `f`, the word at an address (ACPX, ACPY, SCPX, SCPY: R283 to R286). The
increment that follows is the caller's. -/
def State.arithMem (s : State) (f : Nibble → Nibble → AluOut) (addr : DataAddr) (r : Reg) : Res State := do
  let (x, s) ← s.memRead addr
  let (y, s) ← s.regRead r
  let s ← (s.latch x y).memWrite addr (f x y).out
  return s.setCZ (f x y).c (f x y).z

/-- Mn ← f(Mn, 1), C and Z from `f` (INC Mn, DEC Mn: R269, R270). -/
def State.stepDirect (s : State) (f : Nibble → Nibble → AluOut) (n : Nibble) : Res State := do
  let (x, s) ← (s.loadRP n).memRead (directAddr n)
  let s ← (s.latch x 1).memWrite (directAddr n) (f x 1).out
  return (s.setCZ (f x 1).c (f x 1).z).nextPC

/-- r ← q: one read, one write (R181, R187, R189). The program counter is the caller's. -/
def State.move (s : State) (r q : Reg) : Res State := do
  let (v, s) ← s.regRead q
  s.regWrite r v

/-- Two words from an 8-bit immediate at XP : X and XP : X + 1, low nibble first (R66, R131, R190; D18,
log entry 12). The increment
that follows is the caller's. -/
def State.storePair (s : State) (e : BitVec 8) : Res State := do
  let s ← s.memWrite s.ix (e.extractLsb' 0 4)
  s.memWrite s.ixNext (e.extractLsb' 4 4)

end Sys2Proof.Machine
end

