-- ==== Sys2Proof/Machine/Arith.lean ====
section
/-!
DEFINITION. The arithmetic and logic instructions (spec/46_arithmetic.md R245 to R287). The eleven of R248 pass the D
flag to the ALU; every other passes 0.
-/

namespace Sys2Proof.Machine

/-- ADD r,i (R250). -/
def execAddRI (r : Reg) (i : Nibble) (s : State) : Host.Outcome State Fault Refusal :=
  finish (s.begun.arith (fun x y => add4 x y false s.fd) r (.imm i))

/-- ADD r,q (R251). -/
def execAddRQ (r q : Reg) (s : State) : Host.Outcome State Fault Refusal :=
  finish (s.begun.arith (fun x y => add4 x y false s.fd) r (.reg q))

/-- ADC r,i (R252). -/
def execAdcRI (r : Reg) (i : Nibble) (s : State) : Host.Outcome State Fault Refusal :=
  finish (s.begun.arith (fun x y => add4 x y s.fc s.fd) r (.imm i))

/-- ADC r,q (R253). -/
def execAdcRQ (r q : Reg) (s : State) : Host.Outcome State Fault Refusal :=
  finish (s.begun.arith (fun x y => add4 x y s.fc s.fd) r (.reg q))

/-- SUB r,q (R254). -/
def execSubRQ (r q : Reg) (s : State) : Host.Outcome State Fault Refusal :=
  finish (s.begun.arith (fun x y => sub4 x y false s.fd) r (.reg q))

/-- SBC r,i (R255). -/
def execSbcRI (r : Reg) (i : Nibble) (s : State) : Host.Outcome State Fault Refusal :=
  finish (s.begun.arith (fun x y => sub4 x y s.fc s.fd) r (.imm i))

/-- SBC r,q (R256). -/
def execSbcRQ (r q : Reg) (s : State) : Host.Outcome State Fault Refusal :=
  finish (s.begun.arith (fun x y => sub4 x y s.fc s.fd) r (.reg q))

/-- AND r,i (R257). -/
def execAndRI (r : Reg) (i : Nibble) (s : State) : Host.Outcome State Fault Refusal :=
  finish (s.begun.logic (fun x y => x &&& y) r (.imm i))

/-- AND r,q (R258). -/
def execAndRQ (r q : Reg) (s : State) : Host.Outcome State Fault Refusal :=
  finish (s.begun.logic (fun x y => x &&& y) r (.reg q))

/-- OR r,i (R259). -/
def execOrRI (r : Reg) (i : Nibble) (s : State) : Host.Outcome State Fault Refusal :=
  finish (s.begun.logic (fun x y => x ||| y) r (.imm i))

/-- OR r,q (R260). -/
def execOrRQ (r q : Reg) (s : State) : Host.Outcome State Fault Refusal :=
  finish (s.begun.logic (fun x y => x ||| y) r (.reg q))

/-- XOR r,i (R261). -/
def execXorRI (r : Reg) (i : Nibble) (s : State) : Host.Outcome State Fault Refusal :=
  finish (s.begun.logic (fun x y => x ^^^ y) r (.imm i))

/-- XOR r,q (R262). -/
def execXorRQ (r q : Reg) (s : State) : Host.Outcome State Fault Refusal :=
  finish (s.begun.logic (fun x y => x ^^^ y) r (.reg q))

/-- NOT r (R287). -/
def execNotR (r : Reg) (s : State) : Host.Outcome State Fault Refusal :=
  finish (s.begun.logic (fun x y => x ^^^ y) r (.imm 0xF))

/-- CP r,i (R263). -/
def execCpRI (r : Reg) (i : Nibble) (s : State) : Host.Outcome State Fault Refusal :=
  finish (s.begun.compare r (.imm i))

/-- CP r,q (R264). -/
def execCpRQ (r q : Reg) (s : State) : Host.Outcome State Fault Refusal :=
  finish (s.begun.compare r (.reg q))

/-- FAN r,i (R265). -/
def execFanRI (r : Reg) (i : Nibble) (s : State) : Host.Outcome State Fault Refusal :=
  finish (s.begun.testBits r (.imm i))

/-- FAN r,q (R266). -/
def execFanRQ (r q : Reg) (s : State) : Host.Outcome State Fault Refusal :=
  finish (s.begun.testBits r (.reg q))

/-- RLC r: C from bit 3, Z not affected (R267). It goes through the ALU (R102), with one input. -/
def execRlcR (r : Reg) (s : State) : Host.Outcome State Fault Refusal := finish do
  let (x, t) ← s.begun.regRead r
  let t ← (t.latchA x).regWrite r (rotateLeft x s.fc).1
  return (t.setC (rotateLeft x s.fc).2).nextPC

/-- RRC r: C from bit 0, Z not affected (R268). It does not go through the ALU (R102). -/
def execRrcR (r : Reg) (s : State) : Host.Outcome State Fault Refusal := finish do
  let (x, t) ← s.begun.regRead r
  let t ← t.regWrite r (rotateRight x s.fc).1
  return (t.setC (rotateRight x s.fc).2).nextPC

/-- INC Mn: never decimal, incoming C ignored (R269). -/
def execIncMn (n : Nibble) (s : State) : Host.Outcome State Fault Refusal :=
  finish (s.begun.stepDirect (fun x y => add4 x y false false) n)

/-- DEC Mn: never decimal, incoming C ignored (R270). -/
def execDecMn (n : Nibble) (s : State) : Host.Outcome State Fault Refusal :=
  finish (s.begun.stepDirect (fun x y => sub4 x y false false) n)

/-- ACPX MX,r: the increment comes last (R283). -/
def execAcpxMXR (r : Reg) (s : State) : Host.Outcome State Fault Refusal := finish do
  let t ← s.begun.arithMem (fun x y => add4 x y s.fc s.fd) s.ix r
  return (t.bumpX 1).nextPC

/-- ACPY MY,r: the increment comes last (R284). -/
def execAcpyMYR (r : Reg) (s : State) : Host.Outcome State Fault Refusal := finish do
  let t ← s.begun.arithMem (fun x y => add4 x y s.fc s.fd) s.iy r
  return t.bumpY.nextPC

/-- SCPX MX,r: the increment comes last (R285). -/
def execScpxMXR (r : Reg) (s : State) : Host.Outcome State Fault Refusal := finish do
  let t ← s.begun.arithMem (fun x y => sub4 x y s.fc s.fd) s.ix r
  return (t.bumpX 1).nextPC

/-- SCPY MY,r: the increment comes last (R286). -/
def execScpyMYR (r : Reg) (s : State) : Host.Outcome State Fault Refusal := finish do
  let t ← s.begun.arithMem (fun x y => sub4 x y s.fc s.fd) s.iy r
  return t.bumpY.nextPC

end Sys2Proof.Machine
end

