-- ==== Sys2Proof/Machine/Branch.lean ====
section
/-!
DEFINITION. The branch instructions (spec/40_branch.md R120 to R132). Each meaning reads P, the value PSETF had
before the instruction, from the state it is given, and clears PSETF and IDELAY (R45).
-/

namespace Sys2Proof.Machine

/-- PSET p (R120). -/
def execPset (p : BitVec 5) (s : State) : Host.Outcome State Fault Refusal :=
  .next (State.nextPC { s.begun with nbp := p.extractLsb' 4 1, npp := p.extractLsb' 0 4, psetf := true })

/-- A taken jump to a step: bank and page by R132, then PCS. -/
def State.jumpTo (s : State) (step : BitVec 8) : State := { s.begun.jumpBankPage s.psetf with pcs := step }

/-- A jump taken on a condition, NextPC otherwise (R122 to R125). -/
def State.jumpIf (s : State) (cond : Bool) (step : BitVec 8) : State :=
  if cond = true then s.jumpTo step else s.begun.nextPC

/-- JP s (R121). -/
def execJp (step : BitVec 8) (s : State) : Host.Outcome State Fault Refusal := .next (s.jumpTo step)

/-- JP C,s (R122). -/
def execJpC (step : BitVec 8) (s : State) : Host.Outcome State Fault Refusal := .next (s.jumpIf s.fc step)

/-- JP NC,s (R123). -/
def execJpNC (step : BitVec 8) (s : State) : Host.Outcome State Fault Refusal := .next (s.jumpIf (!s.fc) step)

/-- JP Z,s (R124). -/
def execJpZ (step : BitVec 8) (s : State) : Host.Outcome State Fault Refusal := .next (s.jumpIf s.fz step)

/-- JP NZ,s (R125). -/
def execJpNZ (step : BitVec 8) (s : State) : Host.Outcome State Fault Refusal := .next (s.jumpIf (!s.fz) step)

/-- JPBA: PCS ← B : A (R126). -/
def execJpba (s : State) : Host.Outcome State Fault Refusal := .next (s.jumpTo (s.b ++ s.a))

/-- CALL s: the return address is the step after the CALL (R127, D5). -/
def execCall (step : BitVec 8) (s : State) : Host.Outcome State Fault Refusal := finish do
  let t ← s.begun.pushRet (s.pc12 + 1)
  return { t.callPage s.psetf with pcs := step }

/-- CALZ s: page 0 of the current bank; P is ignored (R128). -/
def execCalz (step : BitVec 8) (s : State) : Host.Outcome State Fault Refusal := finish do
  let t ← s.begun.pushRet (s.pc12 + 1)
  return { t with npp := 0, pcp := 0, pcs := step }

/-- RET (R129). -/
def execRet (s : State) : Host.Outcome State Fault Refusal := finish s.begun.returnFromStack

/-- RETS: the popped address plus 1, modulo 4096 (R130, D5). -/
def execRets (s : State) : Host.Outcome State Fault Refusal := finish do
  let t ← s.begun.returnFromStack
  return t.nextPC

/-- Whether a data address is one of the two a RETD stores to. -/
def State.retdStoresAt (s : State) (addr : DataAddr) : Bool := decide (addr = s.ix) || decide (addr = s.ixNext)

/-- Whether a RETD's stores overlap the three stack words it pops (RETD_OVERLAP, R131). -/
def State.retdOverlaps (s : State) : Bool :=
  s.retdStoresAt (stackAddr s.sp) || s.retdStoresAt (stackAddr (s.sp + 1)) || s.retdStoresAt (stackAddr (s.sp + 2))

/-- RETD in the order of the manual's operation line: three pops, two stores, X up by 2 (R131). -/
def State.retdPopThenStore (s : State) (e : BitVec 8) : Res State := do
  let (ret, s) ← s.popRet
  let s ← s.storePair e
  return (s.bumpX 2).setPC12 ret

/-- RETD in the order of the manual's description: two stores, three pops, X up by 2 (R131). -/
def State.retdStoreThenPop (s : State) (e : BitVec 8) : Res State := do
  let s ← s.storePair e
  let (ret, s) ← s.popRet
  return (s.bumpX 2).setPC12 ret

/-- RETD e: the popped address in PC12 (R131). Where the stores overlap the popped words the spec allows either
order, and the free value `Config.retdStoresFirst` chooses (log entry 6); elsewhere both give the same. DESIGN CHOICE
(log entry 6): where a pop and a store both stop, the stop answered is the pop's, whatever the free value. -/
def execRetd (e : BitVec 8) (s : State) : Host.Outcome State Fault Refusal := finish do
  let t ← s.begun.retdPopThenStore e
  let u ← s.begun.retdStoreThenPop e
  return if s.retdOverlaps = true then
    { (bif Config.retdStoresFirst s.draws then u else t) with draws := s.draws + 1 }
  else t

end Sys2Proof.Machine
end

