-- ==== Sys2Proof/Machine/FlagOps.lean ====
section
/-!
DEFINITION. The flag operation instructions (spec/44_flag.md R200 to R209).
-/

namespace Sys2Proof.Machine

/-- I set, with the delay it brings (R42, R200, R208): IDELAY becomes 1 when I was 0; when I was already 1 the spec
allows both values, so it is the free value `Config.idelayOther` (log entry 5). -/
def State.setInterruptFlag (s : State) : State :=
  if s.fi = true then { s with idelay := Config.idelayOther s.draws, draws := s.draws + 1 }
  else { s with fi := true, idelay := true }

/-- SET F,i: the flags the immediate selects are set (R200). -/
def execSetF (i : Nibble) (s : State) : Host.Outcome State Fault Refusal :=
  let t := { s.begun with
    fc := s.fc || i.getLsbD 0, fz := s.fz || i.getLsbD 1, fd := s.fd || i.getLsbD 2 }
  .next (if i.getLsbD 3 = true then t.setInterruptFlag else t).nextPC

/-- RST F,i: the flags whose mask bit is 0 are reset (R201). -/
def execRstF (i : Nibble) (s : State) : Host.Outcome State Fault Refusal :=
  .next (State.nextPC { s.begun with
    fc := s.fc && i.getLsbD 0, fz := s.fz && i.getLsbD 1, fd := s.fd && i.getLsbD 2, fi := s.fi && i.getLsbD 3 })

/-- SCF (R202). -/
def execScf (s : State) : Host.Outcome State Fault Refusal := .next (State.nextPC { s.begun with fc := true })

/-- RCF (R203). -/
def execRcf (s : State) : Host.Outcome State Fault Refusal := .next (State.nextPC { s.begun with fc := false })

/-- SZF (R204). -/
def execSzf (s : State) : Host.Outcome State Fault Refusal := .next (State.nextPC { s.begun with fz := true })

/-- RZF (R205). -/
def execRzf (s : State) : Host.Outcome State Fault Refusal := .next (State.nextPC { s.begun with fz := false })

/-- SDF (R206). -/
def execSdf (s : State) : Host.Outcome State Fault Refusal := .next (State.nextPC { s.begun with fd := true })

/-- RDF (R207). -/
def execRdf (s : State) : Host.Outcome State Fault Refusal := .next (State.nextPC { s.begun with fd := false })

/-- EI (R208). -/
def execEi (s : State) : Host.Outcome State Fault Refusal := .next s.begun.setInterruptFlag.nextPC

/-- DI: interrupts are disabled with this step (R209). -/
def execDi (s : State) : Host.Outcome State Fault Refusal := .next (State.nextPC { s.begun with fi := false })

end Sys2Proof.Machine
end

