-- ==== Sys2Proof/Machine/Index.lean ====
section
/-!
DEFINITION. The index operation instructions (spec/42_index.md R150 to R174). The ADC and CP forms here are never
decimal-corrected (R174).
-/

namespace Sys2Proof.Machine

/-- INC X: X up by 1 modulo 256, XP and the flags unchanged (R150). -/
def execIncX (s : State) : Host.Outcome State Fault Refusal := .next (s.begun.bumpX 1).nextPC

/-- INC Y: Y up by 1 modulo 256, YP and the flags unchanged (R151). -/
def execIncY (s : State) : Host.Outcome State Fault Refusal := .next s.begun.bumpY.nextPC

/-- LD X,e: XP unchanged (R152). -/
def execLdXE (e : BitVec 8) (s : State) : Host.Outcome State Fault Refusal := .next (s.begun.setXhl e).nextPC

/-- LD Y,e: YP unchanged (R153). -/
def execLdYE (e : BitVec 8) (s : State) : Host.Outcome State Fault Refusal := .next (s.begun.setYhl e).nextPC

/-- A part of IX or IY written from an operand, which is read at the old IX or IY (R154 to R159, R76). -/
def State.loadPart (s : State) (put : State → Nibble → State) (r : Reg) : Res State := do
  let (v, s) ← s.regRead r
  return (put s v).nextPC

/-- An operand written from a part of IX or IY (R160 to R165). -/
def State.storePart (s : State) (v : Nibble) (r : Reg) : Res State := do
  let s ← s.regWrite r v
  return s.nextPC

/-- part ← part + i + C, hexadecimal, C and Z written (R166 to R169). -/
def State.addPart (s : State) (put : State → Nibble → State) (v i : Nibble) : State :=
  let o := add4 v i s.fc false
  ((put (s.begun.latch v i) o.out).setCZ o.c o.z).nextPC

/-- part - i for C and Z only, hexadecimal, incoming C ignored (R170 to R173). -/
def State.comparePart (s : State) (v i : Nibble) : State :=
  let o := sub4 v i false false
  ((s.begun.latch v i).setCZ o.c o.z).nextPC

/-- LD XP,r (R154). -/
def execLdXPR (r : Reg) (s : State) : Host.Outcome State Fault Refusal :=
  finish (s.begun.loadPart (fun t v => { t with xp := v }) r)

/-- LD XH,r (R155). -/
def execLdXHR (r : Reg) (s : State) : Host.Outcome State Fault Refusal :=
  finish (s.begun.loadPart (fun t v => { t with xh := v }) r)

/-- LD XL,r (R156). -/
def execLdXLR (r : Reg) (s : State) : Host.Outcome State Fault Refusal :=
  finish (s.begun.loadPart (fun t v => { t with xl := v }) r)

/-- LD YP,r (R157). -/
def execLdYPR (r : Reg) (s : State) : Host.Outcome State Fault Refusal :=
  finish (s.begun.loadPart (fun t v => { t with yp := v }) r)

/-- LD YH,r (R158). -/
def execLdYHR (r : Reg) (s : State) : Host.Outcome State Fault Refusal :=
  finish (s.begun.loadPart (fun t v => { t with yh := v }) r)

/-- LD YL,r (R159). -/
def execLdYLR (r : Reg) (s : State) : Host.Outcome State Fault Refusal :=
  finish (s.begun.loadPart (fun t v => { t with yl := v }) r)

/-- LD r,XP (R160). -/
def execLdRXP (r : Reg) (s : State) : Host.Outcome State Fault Refusal := finish (s.begun.storePart s.xp r)

/-- LD r,XH (R161). -/
def execLdRXH (r : Reg) (s : State) : Host.Outcome State Fault Refusal := finish (s.begun.storePart s.xh r)

/-- LD r,XL (R162). -/
def execLdRXL (r : Reg) (s : State) : Host.Outcome State Fault Refusal := finish (s.begun.storePart s.xl r)

/-- LD r,YP (R163). -/
def execLdRYP (r : Reg) (s : State) : Host.Outcome State Fault Refusal := finish (s.begun.storePart s.yp r)

/-- LD r,YH (R164). -/
def execLdRYH (r : Reg) (s : State) : Host.Outcome State Fault Refusal := finish (s.begun.storePart s.yh r)

/-- LD r,YL (R165). -/
def execLdRYL (r : Reg) (s : State) : Host.Outcome State Fault Refusal := finish (s.begun.storePart s.yl r)

/-- ADC XH,i (R166). -/
def execAdcXHI (i : Nibble) (s : State) : Host.Outcome State Fault Refusal :=
  .next (s.addPart (fun t v => { t with xh := v }) s.xh i)

/-- ADC XL,i (R167). -/
def execAdcXLI (i : Nibble) (s : State) : Host.Outcome State Fault Refusal :=
  .next (s.addPart (fun t v => { t with xl := v }) s.xl i)

/-- ADC YH,i (R168). -/
def execAdcYHI (i : Nibble) (s : State) : Host.Outcome State Fault Refusal :=
  .next (s.addPart (fun t v => { t with yh := v }) s.yh i)

/-- ADC YL,i (R169). -/
def execAdcYLI (i : Nibble) (s : State) : Host.Outcome State Fault Refusal :=
  .next (s.addPart (fun t v => { t with yl := v }) s.yl i)

/-- CP XH,i (R170). -/
def execCpXHI (i : Nibble) (s : State) : Host.Outcome State Fault Refusal := .next (s.comparePart s.xh i)

/-- CP XL,i (R171). -/
def execCpXLI (i : Nibble) (s : State) : Host.Outcome State Fault Refusal := .next (s.comparePart s.xl i)

/-- CP YH,i (R172). -/
def execCpYHI (i : Nibble) (s : State) : Host.Outcome State Fault Refusal := .next (s.comparePart s.yh i)

/-- CP YL,i (R173). -/
def execCpYLI (i : Nibble) (s : State) : Host.Outcome State Fault Refusal := .next (s.comparePart s.yl i)

end Sys2Proof.Machine
end

