-- ==== Sys2Proof/Machine/Stack.lean ====
section
/-!
DEFINITION. The stack operation instructions (spec/45_stack.md R215 to R236).
-/

namespace Sys2Proof.Machine

/-- INC SP: modulo 256, no memory access (R215). -/
def execIncSP (s : State) : Host.Outcome State Fault Refusal := .next (s.begun.setSP (s.sp + 1)).nextPC

/-- DEC SP: modulo 256, no memory access (R216). -/
def execDecSP (s : State) : Host.Outcome State Fault Refusal := .next (s.begun.setSP (s.sp - 1)).nextPC

/-- Push1 of a value, then NextPC (R218 to R224). -/
def State.pushValue (s : State) (v : Nibble) : Res State := do
  let s ← s.push1 v
  return s.nextPC

/-- Pop1 into a register, then NextPC (R226 to R231). -/
def State.popInto (s : State) (put : State → Nibble → State) : Res State := do
  let (v, s) ← s.pop1
  return (put s v).nextPC

/-- PUSH r: the operand is read before the push (R217, R75). -/
def execPushR (r : Reg) (s : State) : Host.Outcome State Fault Refusal := finish do
  let (v, t) ← s.begun.regRead r
  t.pushValue v

/-- PUSH XP (R218). -/
def execPushXP (s : State) : Host.Outcome State Fault Refusal := finish (s.begun.pushValue s.xp)

/-- PUSH XH (R219). -/
def execPushXH (s : State) : Host.Outcome State Fault Refusal := finish (s.begun.pushValue s.xh)

/-- PUSH XL (R220). -/
def execPushXL (s : State) : Host.Outcome State Fault Refusal := finish (s.begun.pushValue s.xl)

/-- PUSH YP (R221). -/
def execPushYP (s : State) : Host.Outcome State Fault Refusal := finish (s.begun.pushValue s.yp)

/-- PUSH YH (R222). -/
def execPushYH (s : State) : Host.Outcome State Fault Refusal := finish (s.begun.pushValue s.yh)

/-- PUSH YL (R223). -/
def execPushYL (s : State) : Host.Outcome State Fault Refusal := finish (s.begun.pushValue s.yl)

/-- PUSH F: I : D : Z : C (R224). -/
def execPushF (s : State) : Host.Outcome State Fault Refusal := finish (s.begun.pushValue s.flags)

/-- POP r: the operand is written after the pop (R225). -/
def execPopR (r : Reg) (s : State) : Host.Outcome State Fault Refusal := finish do
  let (v, t) ← s.begun.pop1
  let t ← t.regWrite r v
  return t.nextPC

/-- POP XP (R226). -/
def execPopXP (s : State) : Host.Outcome State Fault Refusal := finish (s.begun.popInto (fun t v => { t with xp := v }))

/-- POP XH (R227). -/
def execPopXH (s : State) : Host.Outcome State Fault Refusal := finish (s.begun.popInto (fun t v => { t with xh := v }))

/-- POP XL (R228). -/
def execPopXL (s : State) : Host.Outcome State Fault Refusal := finish (s.begun.popInto (fun t v => { t with xl := v }))

/-- POP YP (R229). -/
def execPopYP (s : State) : Host.Outcome State Fault Refusal := finish (s.begun.popInto (fun t v => { t with yp := v }))

/-- POP YH (R230). -/
def execPopYH (s : State) : Host.Outcome State Fault Refusal := finish (s.begun.popInto (fun t v => { t with yh := v }))

/-- POP YL (R231). -/
def execPopYL (s : State) : Host.Outcome State Fault Refusal := finish (s.begun.popInto (fun t v => { t with yl := v }))

/-- What POP F does with the popped word: all four flags, and, where I goes from 0 to 1, an IDELAY the spec leaves
open: the free value `Config.idelayOther` (R42, R232; log entry 5). -/
def State.popFlags (s : State) (v : Nibble) : State :=
  if s.fi = false ∧ v.getLsbD 3 = true then
    { s.setFlags v with idelay := Config.idelayOther s.draws, draws := s.draws + 1 }
  else s.setFlags v

/-- POP F (R232). -/
def execPopF (s : State) : Host.Outcome State Fault Refusal := finish (s.begun.popInto State.popFlags)

/-- LD SPH,r: SPL unchanged (R233). -/
def execLdSPHR (r : Reg) (s : State) : Host.Outcome State Fault Refusal := finish do
  let (v, t) ← s.begun.regRead r
  return (t.setSP (v ++ s.sp.extractLsb' 0 4)).nextPC

/-- LD SPL,r: SPH unchanged (R234). -/
def execLdSPLR (r : Reg) (s : State) : Host.Outcome State Fault Refusal := finish do
  let (v, t) ← s.begun.regRead r
  return (t.setSP (s.sp.extractLsb' 4 4 ++ v)).nextPC

/-- LD r,SPH (R235). -/
def execLdRSPH (r : Reg) (s : State) : Host.Outcome State Fault Refusal := finish do
  let t ← s.begun.regWrite r (s.sp.extractLsb' 4 4)
  return t.nextPC

/-- LD r,SPL (R236). -/
def execLdRSPL (r : Reg) (s : State) : Host.Outcome State Fault Refusal := finish do
  let t ← s.begun.regWrite r (s.sp.extractLsb' 0 4)
  return t.nextPC

end Sys2Proof.Machine
end

