-- ==== Sys2Proof/Machine/System.lean ====
section
/-!
DEFINITION. The system control instructions (spec/41_system_control.md R140 to R143).
-/

namespace Sys2Proof.Machine

/-- NOP5 (R140). -/
def execNop5 (s : State) : Host.Outcome State Fault Refusal := .next s.begun.nextPC

/-- NOP7 (R141). -/
def execNop7 (s : State) : Host.Outcome State Fault Refusal := .next s.begun.nextPC

/-- HALT: the program counter advances, then the core stops; nothing is pushed (R142, D10). -/
def execHalt (s : State) : Host.Outcome State Fault Refusal := .next { s.begun.nextPC with runState := .halt }

/-- SLP: as HALT, in the SLEEP state (R143). -/
def execSlp (s : State) : Host.Outcome State Fault Refusal := .next { s.begun.nextPC with runState := .sleep }

end Sys2Proof.Machine
end

