-- ==== Sys2Proof/Machine/Transfer.lean ====
section
/-!
DEFINITION. The data transfer instructions (spec/43_data_transfer.md R180 to R190). None writes a flag.
-/

namespace Sys2Proof.Machine

/-- LD r,i (R180). -/
def execLdRI (r : Reg) (i : Nibble) (s : State) : Host.Outcome State Fault Refusal := finish do
  let t ← s.begun.regWrite r i
  return t.nextPC

/-- LD r,q (R181). -/
def execLdRQ (r q : Reg) (s : State) : Host.Outcome State Fault Refusal := finish do
  let t ← s.begun.move r q
  return t.nextPC

/-- LD A,Mn: the address is 00nH whatever XP, YP and SP are (R182). -/
def execLdAMn (n : Nibble) (s : State) : Host.Outcome State Fault Refusal := finish do
  let (v, t) ← (s.begun.loadRP n).memRead (directAddr n)
  return State.nextPC { t with a := v }

/-- LD B,Mn: the address is 00nH whatever XP, YP and SP are (R183). -/
def execLdBMn (n : Nibble) (s : State) : Host.Outcome State Fault Refusal := finish do
  let (v, t) ← (s.begun.loadRP n).memRead (directAddr n)
  return State.nextPC { t with b := v }

/-- LD Mn,A (R184). -/
def execLdMnA (n : Nibble) (s : State) : Host.Outcome State Fault Refusal := finish do
  let t ← (s.begun.loadRP n).memWrite (directAddr n) s.a
  return t.nextPC

/-- LD Mn,B (R185). -/
def execLdMnB (n : Nibble) (s : State) : Host.Outcome State Fault Refusal := finish do
  let t ← (s.begun.loadRP n).memWrite (directAddr n) s.b
  return t.nextPC

/-- LDPX MX,i (R186). -/
def execLdpxMXI (i : Nibble) (s : State) : Host.Outcome State Fault Refusal := finish do
  let t ← s.begun.memWrite s.ix i
  return (t.bumpX 1).nextPC

/-- LDPX r,q: the increment comes after both accesses (R187). -/
def execLdpxRQ (r q : Reg) (s : State) : Host.Outcome State Fault Refusal := finish do
  let t ← s.begun.move r q
  return (t.bumpX 1).nextPC

/-- LDPY MY,i (R188). -/
def execLdpyMYI (i : Nibble) (s : State) : Host.Outcome State Fault Refusal := finish do
  let t ← s.begun.memWrite s.iy i
  return t.bumpY.nextPC

/-- LDPY r,q: the increment comes after both accesses (R189). -/
def execLdpyRQ (r q : Reg) (s : State) : Host.Outcome State Fault Refusal := finish do
  let t ← s.begun.move r q
  return t.bumpY.nextPC

/-- LBPX MX,e (R190). -/
def execLbpxMXE (e : BitVec 8) (s : State) : Host.Outcome State Fault Refusal := finish do
  let t ← s.begun.storePair e
  return (t.bumpX 2).nextPC

end Sys2Proof.Machine
end

