-- ==== Sys2Proof/Machine/Dispatch.lean ====
section
/-! DEFINITION. The meaning of each instruction, one arm for each row of spec/opcode_table.json (R100), in its order. -/

namespace Sys2Proof.Machine

def exec (i : Instr) (s : State) : Host.Outcome State Fault Refusal :=
  match i with
  | .jp step => Sys2Proof.Machine.execJp step s
  | .retd e => Sys2Proof.Machine.execRetd e s
  | .jpC step => Sys2Proof.Machine.execJpC step s
  | .jpNC step => Sys2Proof.Machine.execJpNC step s
  | .call step => Sys2Proof.Machine.execCall step s
  | .calz step => Sys2Proof.Machine.execCalz step s
  | .jpZ step => Sys2Proof.Machine.execJpZ step s
  | .jpNZ step => Sys2Proof.Machine.execJpNZ step s
  | .ldYE e => Sys2Proof.Machine.execLdYE e s
  | .lbpxMXE e => Sys2Proof.Machine.execLbpxMXE e s
  | .adcXHI imm => Sys2Proof.Machine.execAdcXHI imm s
  | .adcXLI imm => Sys2Proof.Machine.execAdcXLI imm s
  | .adcYHI imm => Sys2Proof.Machine.execAdcYHI imm s
  | .adcYLI imm => Sys2Proof.Machine.execAdcYLI imm s
  | .cpXHI imm => Sys2Proof.Machine.execCpXHI imm s
  | .cpXLI imm => Sys2Proof.Machine.execCpXLI imm s
  | .cpYHI imm => Sys2Proof.Machine.execCpYHI imm s
  | .cpYLI imm => Sys2Proof.Machine.execCpYLI imm s
  | .addRQ r q => Sys2Proof.Machine.execAddRQ r q s
  | .adcRQ r q => Sys2Proof.Machine.execAdcRQ r q s
  | .subRQ r q => Sys2Proof.Machine.execSubRQ r q s
  | .sbcRQ r q => Sys2Proof.Machine.execSbcRQ r q s
  | .andRQ r q => Sys2Proof.Machine.execAndRQ r q s
  | .orRQ r q => Sys2Proof.Machine.execOrRQ r q s
  | .xorRQ r q => Sys2Proof.Machine.execXorRQ r q s
  | .rlcR r => Sys2Proof.Machine.execRlcR r s
  | .ldXE e => Sys2Proof.Machine.execLdXE e s
  | .addRI r imm => Sys2Proof.Machine.execAddRI r imm s
  | .adcRI r imm => Sys2Proof.Machine.execAdcRI r imm s
  | .andRI r imm => Sys2Proof.Machine.execAndRI r imm s
  | .orRI r imm => Sys2Proof.Machine.execOrRI r imm s
  | .xorRI r imm => Sys2Proof.Machine.execXorRI r imm s
  | .notR r => Sys2Proof.Machine.execNotR r s
  | .sbcRI r imm => Sys2Proof.Machine.execSbcRI r imm s
  | .fanRI r imm => Sys2Proof.Machine.execFanRI r imm s
  | .cpRI r imm => Sys2Proof.Machine.execCpRI r imm s
  | .ldRI r imm => Sys2Proof.Machine.execLdRI r imm s
  | .pset p => Sys2Proof.Machine.execPset p s
  | .ldpxMXI imm => Sys2Proof.Machine.execLdpxMXI imm s
  | .ldpyMYI imm => Sys2Proof.Machine.execLdpyMYI imm s
  | .ldXPR r => Sys2Proof.Machine.execLdXPR r s
  | .ldXHR r => Sys2Proof.Machine.execLdXHR r s
  | .ldXLR r => Sys2Proof.Machine.execLdXLR r s
  | .rrcR r => Sys2Proof.Machine.execRrcR r s
  | .ldYPR r => Sys2Proof.Machine.execLdYPR r s
  | .ldYHR r => Sys2Proof.Machine.execLdYHR r s
  | .ldYLR r => Sys2Proof.Machine.execLdYLR r s
  | .ldRXP r => Sys2Proof.Machine.execLdRXP r s
  | .ldRXH r => Sys2Proof.Machine.execLdRXH r s
  | .ldRXL r => Sys2Proof.Machine.execLdRXL r s
  | .ldRYP r => Sys2Proof.Machine.execLdRYP r s
  | .ldRYH r => Sys2Proof.Machine.execLdRYH r s
  | .ldRYL r => Sys2Proof.Machine.execLdRYL r s
  | .ldRQ r q => Sys2Proof.Machine.execLdRQ r q s
  | .ldpxRQ r q => Sys2Proof.Machine.execLdpxRQ r q s
  | .incX => Sys2Proof.Machine.execIncX s
  | .ldpyRQ r q => Sys2Proof.Machine.execLdpyRQ r q s
  | .incY => Sys2Proof.Machine.execIncY s
  | .cpRQ r q => Sys2Proof.Machine.execCpRQ r q s
  | .fanRQ r q => Sys2Proof.Machine.execFanRQ r q s
  | .acpxMXR r => Sys2Proof.Machine.execAcpxMXR r s
  | .acpyMYR r => Sys2Proof.Machine.execAcpyMYR r s
  | .scpxMXR r => Sys2Proof.Machine.execScpxMXR r s
  | .scpyMYR r => Sys2Proof.Machine.execScpyMYR r s
  | .setF imm => Sys2Proof.Machine.execSetF imm s
  | .scf => Sys2Proof.Machine.execScf s
  | .szf => Sys2Proof.Machine.execSzf s
  | .sdf => Sys2Proof.Machine.execSdf s
  | .ei => Sys2Proof.Machine.execEi s
  | .rstF imm => Sys2Proof.Machine.execRstF imm s
  | .di => Sys2Proof.Machine.execDi s
  | .rdf => Sys2Proof.Machine.execRdf s
  | .rzf => Sys2Proof.Machine.execRzf s
  | .rcf => Sys2Proof.Machine.execRcf s
  | .incMn n => Sys2Proof.Machine.execIncMn n s
  | .decMn n => Sys2Proof.Machine.execDecMn n s
  | .ldMnA n => Sys2Proof.Machine.execLdMnA n s
  | .ldMnB n => Sys2Proof.Machine.execLdMnB n s
  | .ldAMn n => Sys2Proof.Machine.execLdAMn n s
  | .ldBMn n => Sys2Proof.Machine.execLdBMn n s
  | .pushR r => Sys2Proof.Machine.execPushR r s
  | .pushXP => Sys2Proof.Machine.execPushXP s
  | .pushXH => Sys2Proof.Machine.execPushXH s
  | .pushXL => Sys2Proof.Machine.execPushXL s
  | .pushYP => Sys2Proof.Machine.execPushYP s
  | .pushYH => Sys2Proof.Machine.execPushYH s
  | .pushYL => Sys2Proof.Machine.execPushYL s
  | .pushF => Sys2Proof.Machine.execPushF s
  | .decSP => Sys2Proof.Machine.execDecSP s
  | .popR r => Sys2Proof.Machine.execPopR r s
  | .popXP => Sys2Proof.Machine.execPopXP s
  | .popXH => Sys2Proof.Machine.execPopXH s
  | .popXL => Sys2Proof.Machine.execPopXL s
  | .popYP => Sys2Proof.Machine.execPopYP s
  | .popYH => Sys2Proof.Machine.execPopYH s
  | .popYL => Sys2Proof.Machine.execPopYL s
  | .popF => Sys2Proof.Machine.execPopF s
  | .incSP => Sys2Proof.Machine.execIncSP s
  | .rets => Sys2Proof.Machine.execRets s
  | .ret => Sys2Proof.Machine.execRet s
  | .ldSPHR r => Sys2Proof.Machine.execLdSPHR r s
  | .ldRSPH r => Sys2Proof.Machine.execLdRSPH r s
  | .jpba => Sys2Proof.Machine.execJpba s
  | .ldSPLR r => Sys2Proof.Machine.execLdSPLR r s
  | .ldRSPL r => Sys2Proof.Machine.execLdRSPL r s
  | .halt => Sys2Proof.Machine.execHalt s
  | .slp => Sys2Proof.Machine.execSlp s
  | .nop5 => Sys2Proof.Machine.execNop5 s
  | .nop7 => Sys2Proof.Machine.execNop7 s

end Sys2Proof.Machine
end

