-- ==== Sys2Proof/Machine/Boundary.lean ====
section
/-!
DEFINITION. What happens at an instruction boundary (spec/10_state.md R45): the inputs sampled there, reset
(spec/70_reset_and_hazards.md R340), the fetch (spec/20_memory.md R61) and one whole step.
-/

namespace Sys2Proof.Machine

/-- The input presented at this boundary: the next one listed, quiet where none is (R44, R341; log entry 11). -/
def State.nextInput (s : State) : BoundaryInput := s.inputs.headD BoundaryInput.quiet

/-- The state once the input of this boundary has been sampled. A request has no latch (R44, D9). -/
def State.atBoundary (s : State) : State := { s with inputs := s.inputs.tail }

/-- Reset (R340): every register, flag and hidden bit as in `State.reset`, every RAM word unwritten again (U2, D22).
The program, the device, the coming inputs and the accesses already made are not the core's to reset. -/
def State.doReset (s : State) : State :=
  { State.reset with
    rom := s.rom, device := s.device, inputs := s.inputs, bus := s.bus, draws := s.draws, resets := s.resets + 1 }

/-- The instruction at PCB : PCP : PCS, or why the step has no successor: no ROM there (R61, U9), no instruction
(R104, R105, D20), or one the device lacks (R106, D2). DESIGN CHOICE (log entry 18): a word with two names (R99) is
lacked exactly when the instruction `decode` answers, its alias, is; the row of the general form is not asked. -/
def State.fetch (s : State) : Except Fault Instr :=
  match s.rom.lookup s.pc.toNat with
  | none => .error (.romUnmapped s.pc)
  | some w =>
    match decode w with
    | .error .undefinedWord => .error (.undefinedOpcode w)
    | .error .rlcFields => .error (.rlcFields w)
    | .ok i => if s.device.lacking.contains i.row = true then .error (.undefinedOpcode w) else .ok i

/-- The part of a step after the inputs: nothing in HALT and SLEEP, else fetch and execute (R43, R45). -/
def State.proceed (s : State) : Host.Outcome State Fault Refusal :=
  match s.runState with
  | .halt => .next s
  | .sleep => .next s
  | .run =>
    match s.fetch with
    | .error f => .fault f
    | .ok i => exec i s

/-- One step, from one boundary to the next: reset first, then an accepted request, then `proceed` (R45, R311). -/
def State.oneStep (s : State) : Host.Outcome State Fault Refusal :=
  if s.nextInput.reset = true then .next s.atBoundary.doReset
  else
    match s.nextInput.irq with
    | none => s.atBoundary.proceed
    | some v => if s.acceptsInterrupt = true then finish (s.atBoundary.interruptEntry v) else s.atBoundary.proceed

/-- The state with a program word put where the next fetch looks, and nothing in the way of that fetch: RUN, and a
quiet input at this boundary (log entry 9). -/
def State.placeWord (s : State) (w : InstrWord) : State :=
  { s with
    rom := s.rom.store s.pc.toNat w
    runState := .run
    inputs := match s.inputs with
      | [] => []
      | _ :: rest => BoundaryInput.quiet :: rest }

end Sys2Proof.Machine
end

