-- ==== Sys2Proof/Machine/Step.lean ====
section
/-!
DEFINITION. The step function, and the state in which the next step runs a given word.
-/

namespace Sys2Proof.Machine

/-- One step of the machine (spec/10_state.md R45). -/
def step (s : State) : Host.Outcome State Fault Refusal := s.oneStep

/-- The state with an instruction, its bits numbered as spec/opcode_table.json numbers them, where `step` fetches
next. A program word has 12 bits; bits above them have no place. -/
def State.withFetchWord (s : State) (nbits w : Nat) : State := s.placeWord (BitVec.ofNat 12 (w % 2 ^ nbits))

end Sys2Proof.Machine
end

