-- ==== Sys2Proof/Safety.lean ====
section
/-!
DEFINITION. The terms the statements use: when an operand can be read and written, what an operand holds and where a
result goes, what an instruction leaves alone, and the invariant of the machine.
-/

namespace Sys2Proof.Machine

/-! ### Which accesses complete -/

/-- A read of the address completes: something is there (R64), and it is not an access R325 calls "Not possible". -/
def State.CanRead (s : State) (addr : DataAddr) : Prop := s.readStop addr = none

/-- A write of the address completes, in the same sense. -/
def State.CanWrite (s : State) (addr : DataAddr) : Prop := s.writeStop addr = none

/-- The addresses of an operand in data memory: none for A and B (R96). -/
def State.operandAddrs (s : State) : Reg → List DataAddr
  | .a  => []
  | .b  => []
  | .mx => [s.ix]
  | .my => [s.iy]

/-- The operand can be read (R96). -/
def State.CanReadOperand (s : State) (r : Reg) : Prop := ∀ addr, addr ∈ s.operandAddrs r → s.CanRead addr

/-- The operand can be written (R96). -/
def State.CanWriteOperand (s : State) (r : Reg) : Prop := ∀ addr, addr ∈ s.operandAddrs r → s.CanWrite addr

/-- The stack takes a return address: the three words below SP can be written (R72). -/
def State.CanPushReturn (s : State) : Prop :=
  s.CanWrite (stackAddr (s.sp - 1)) ∧ s.CanWrite (stackAddr (s.sp - 2)) ∧ s.CanWrite (stackAddr (s.sp - 3))

/-- The stack gives a return address: the three words from SP up can be read (R72). -/
def State.CanPopReturn (s : State) : Prop :=
  s.CanRead (stackAddr s.sp) ∧ s.CanRead (stackAddr (s.sp + 1)) ∧ s.CanRead (stackAddr (s.sp + 2))

/-! ### What is read and what is written -/

/-- What reading an operand gives (R96). -/
def State.operand (s : State) : Reg → Nibble
  | .a  => s.a
  | .b  => s.b
  | .mx => s.readValue s.ix
  | .my => s.readValue s.iy

/-- The state after reading an operand: changed only if a peripheral saw the read (R64, R80). -/
def State.afterOperand (s : State) : Reg → State
  | .a  => s
  | .b  => s
  | .mx => s.afterRead s.ix
  | .my => s.afterRead s.iy

/-- The state after giving an operand a value (R96): the register, the RAM word, or what a peripheral saw. -/
def State.afterPut (s : State) (r : Reg) (v : Nibble) : State :=
  match r with
  | .a  => { s with a := v }
  | .b  => { s with b := v }
  | .mx => s.afterWrite s.ix v
  | .my => s.afterWrite s.iy v

/-- The second operand can be read: an immediate always. -/
def State.CanReadSrc (s : State) : Src → Prop
  | .imm _ => True
  | .reg q => s.CanReadOperand q

/-- What reading a second operand gives. -/
def State.srcValue (s : State) : Src → Nibble
  | .imm i => i
  | .reg q => s.operand q

/-- The state after reading a second operand. -/
def State.afterSrc (s : State) : Src → State
  | .imm _ => s
  | .reg q => s.afterOperand q

/-- In `t` a result has reached the operand an instruction started with in `s` (R96, R76): the register holds it, or
the RAM word does. What a peripheral was given is in the record of accesses (`Frame`). -/
def State.OperandTook (s t : State) (r : Reg) (v : Nibble) : Prop :=
  match r with
  | .a  => t.a = v
  | .b  => t.b = v
  | .mx => kindAt s.device s.ix = .ram → t.ramWord s.ix = v
  | .my => kindAt s.device s.iy = .ram → t.ramWord s.iy = v

/-- The address of a peripheral access. -/
def BusEvent.address : BusEvent → DataAddr
  | .read addr _ => addr
  | .write addr _ => addr

/-- The accesses that reading an operand makes, with what it gives (R75). -/
def State.reads (s : State) (r : Reg) (v : Nibble) : List BusEvent := (s.operandAddrs r).map (.read · v)

/-- The accesses that writing an operand makes (R75). -/
def State.writes (s : State) (r : Reg) (v : Nibble) : List BusEvent := (s.operandAddrs r).map (.write · v)

/-- The record of peripheral accesses after some data accesses, in the order they are made: those that are not to RAM
are added to it, newest first (R46, R80). The order of the accesses inside one instruction is the spec's decision D18
(log entry 12). -/
def State.busAfter (s : State) (accesses : List BusEvent) : List BusEvent :=
  (accesses.filter (fun e => decide (kindAt s.device e.address ≠ .ram))).reverse ++ s.bus

/-- The popped return address of a state: page, step high, step low from SP + 2 down to SP, each read in turn (R72). -/
def State.poppedReturn (s : State) : BitVec 12 :=
  let s1 := s.afterRead (stackAddr s.sp)
  let s2 := s1.afterRead (stackAddr (s.sp + 1))
  s2.readValue (stackAddr (s.sp + 2)) ++ s1.readValue (stackAddr (s.sp + 1)) ++ s.readValue (stackAddr s.sp)

/-! ### What is left alone -/

/-- The pieces of state a frame names: all of State but PCP and PCS, PSETF and IDELAY, of which each statement speaks
for itself, and the RAM words and the record of peripheral accesses, which `Frame` names apart. -/
inductive Piece where
  | a | b | xp | xh | xl | yp | yh | yl | sp | pcb | nbp | npp
  | fi | fd | fz | fc | rp | tempA | tempB
  | runState | draws | rom | device | inputs | resets
  deriving DecidableEq, Repr

/-- A piece holds in `t` what it held in `s`. -/
def Piece.Same (s t : State) : Piece → Prop
  | .a => t.a = s.a
  | .b => t.b = s.b
  | .xp => t.xp = s.xp
  | .xh => t.xh = s.xh
  | .xl => t.xl = s.xl
  | .yp => t.yp = s.yp
  | .yh => t.yh = s.yh
  | .yl => t.yl = s.yl
  | .sp => t.sp = s.sp
  | .pcb => t.pcb = s.pcb
  | .nbp => t.nbp = s.nbp
  | .npp => t.npp = s.npp
  | .fi => t.fi = s.fi
  | .fd => t.fd = s.fd
  | .fz => t.fz = s.fz
  | .fc => t.fc = s.fc
  | .rp => t.rp = s.rp
  | .tempA => t.tempA = s.tempA
  | .tempB => t.tempB = s.tempB
  | .runState => t.runState = s.runState
  | .draws => t.draws = s.draws
  | .rom => t.rom = s.rom
  | .device => t.device = s.device
  | .inputs => t.inputs = s.inputs
  | .resets => t.resets = s.resets

/-- From `s` to `t` nothing but the listed pieces changed, no RAM word but those at the listed addresses, and the
peripherals saw the listed accesses, as far as they are theirs, and no other. -/
def Frame (pieces : List Piece) (stored : List DataAddr) (accesses : List BusEvent) (s t : State) : Prop :=
  (∀ p : Piece, p ∉ pieces → p.Same s t) ∧
  (∀ addr : DataAddr, addr ∉ stored → t.ramWord addr = s.ramWord addr) ∧
  t.bus = s.busAfter accesses

/-- The register a result goes to; none where it goes to a word of memory (R96). -/
def destPieces : Reg → List Piece
  | .a  => [.a]
  | .b  => [.b]
  | .mx => []
  | .my => []

/-- The word and the clock count of an instruction (R100, R102). -/
def HasWord (i : Instr) (w : InstrWord) (clocks : Nat) : Prop := encode i = w ∧ i.clocks = clocks

/-- The end of every instruction but a taken jump, a call and a return (R27, R45): the 12-bit counter up by one, and
neither PSETF nor IDELAY set. That the counter wraps inside its bank is the spec's decision D6 (log entry 16). -/
def Advanced (s t : State) : Prop := t.pc12 = s.pc12 + 1 ∧ t.psetf = false ∧ t.idelay = false

/-- A taken jump from `s` to a step: bank and page from NBP and NPP right after PSET, unchanged otherwise (R132, and
the spec's decisions D3 and D4, log entry 16); nothing else changes (R45). -/
def JumpedTo (s t : State) (step : BitVec 8) : Prop :=
  t.pcs = step ∧ t.pcb = (if s.psetf = true then s.nbp else s.pcb) ∧
  t.pcp = (if s.psetf = true then s.npp else s.pcp) ∧ t.psetf = false ∧ t.idelay = false ∧ Frame [.pcb] [] [] s t

/-- A return address has been pushed (R72): page at SP - 1, step high at SP - 2, step low at SP - 3, SP three lower;
nothing but the listed pieces changed. -/
def PushedReturn (s t : State) (ret : BitVec 12) (pieces : List Piece) : Prop :=
  t.sp = s.sp - 3 ∧
  (kindAt s.device (stackAddr (s.sp - 1)) = .ram → t.ramWord (stackAddr (s.sp - 1)) = ret.extractLsb' 8 4) ∧
  (kindAt s.device (stackAddr (s.sp - 2)) = .ram → t.ramWord (stackAddr (s.sp - 2)) = ret.extractLsb' 4 4) ∧
  (kindAt s.device (stackAddr (s.sp - 3)) = .ram → t.ramWord (stackAddr (s.sp - 3)) = ret.extractLsb' 0 4) ∧
  Frame pieces [stackAddr (s.sp - 1), stackAddr (s.sp - 2), stackAddr (s.sp - 3)]
    [.write (stackAddr (s.sp - 1)) (ret.extractLsb' 8 4), .write (stackAddr (s.sp - 2)) (ret.extractLsb' 4 4),
      .write (stackAddr (s.sp - 3)) (ret.extractLsb' 0 4)] s t

/-- The three reads a return makes, with what they give (R72). -/
def State.returnReads (s : State) : List BusEvent :=
  [.read (stackAddr s.sp) (s.poppedReturn.extractLsb' 0 4), .read (stackAddr (s.sp + 1)) (s.poppedReturn.extractLsb' 4 4),
    .read (stackAddr (s.sp + 2)) (s.poppedReturn.extractLsb' 8 4)]

/-- A return address has been popped (R72): SP three higher, nothing else changed but the program counter. -/
def PoppedReturn (s t : State) : Prop :=
  t.sp = s.sp + 3 ∧ t.psetf = false ∧ t.idelay = false ∧ Frame [.sp] [] s.returnReads s t

/-- A value has been pushed after some accesses (R71): SP one lower, the value at the new SP in page 0, nothing else
changed. -/
def Pushed (s t : State) (v : Nibble) (before : List BusEvent) : Prop :=
  t.sp = s.sp - 1 ∧ (kindAt s.device (stackAddr (s.sp - 1)) = .ram → t.ramWord (stackAddr (s.sp - 1)) = v) ∧
  Frame [.sp] [stackAddr (s.sp - 1)] (before ++ [.write (stackAddr (s.sp - 1)) v]) s t

/-! ### Table 2.3.1.1 (46_arithmetic.md R247), each cell as (Z, C, output) -/

/-- Addition with D = 0, by the actual result 0 to 31. -/
def table247AddHex : List (Nat × Nat × Nat) :=
  [(1, 0, 0), (0, 0, 1), (0, 0, 2), (0, 0, 3), (0, 0, 4), (0, 0, 5), (0, 0, 6), (0, 0, 7)] ++
  [(0, 0, 8), (0, 0, 9), (0, 0, 10), (0, 0, 11), (0, 0, 12), (0, 0, 13), (0, 0, 14), (0, 0, 15)] ++
  [(1, 1, 0), (0, 1, 1), (0, 1, 2), (0, 1, 3), (0, 1, 4), (0, 1, 5), (0, 1, 6), (0, 1, 7)] ++
  [(0, 1, 8), (0, 1, 9), (0, 1, 10), (0, 1, 11), (0, 1, 12), (0, 1, 13), (0, 1, 14), (0, 1, 15)]

/-- Addition with D = 1, by the actual result 0 to 31. -/
def table247AddDec : List (Nat × Nat × Nat) :=
  [(1, 0, 0), (0, 0, 1), (0, 0, 2), (0, 0, 3), (0, 0, 4), (0, 0, 5), (0, 0, 6), (0, 0, 7)] ++
  [(0, 0, 8), (0, 0, 9), (1, 1, 0), (0, 1, 1), (0, 1, 2), (0, 1, 3), (0, 1, 4), (0, 1, 5)] ++
  [(0, 1, 6), (0, 1, 7), (0, 1, 8), (0, 1, 9), (0, 1, 10), (0, 1, 11), (0, 1, 12), (0, 1, 13)] ++
  [(0, 1, 14), (0, 1, 15), (1, 1, 0), (0, 1, 1), (0, 1, 2), (0, 1, 3), (0, 1, 4), (0, 1, 5)]

/-- Subtraction with D = 0, by the actual result -16 to 15, counted from -16. -/
def table247SubHex : List (Nat × Nat × Nat) :=
  [(1, 1, 0), (0, 1, 1), (0, 1, 2), (0, 1, 3), (0, 1, 4), (0, 1, 5), (0, 1, 6), (0, 1, 7)] ++
  [(0, 1, 8), (0, 1, 9), (0, 1, 10), (0, 1, 11), (0, 1, 12), (0, 1, 13), (0, 1, 14), (0, 1, 15)] ++
  [(1, 0, 0), (0, 0, 1), (0, 0, 2), (0, 0, 3), (0, 0, 4), (0, 0, 5), (0, 0, 6), (0, 0, 7)] ++
  [(0, 0, 8), (0, 0, 9), (0, 0, 10), (0, 0, 11), (0, 0, 12), (0, 0, 13), (0, 0, 14), (0, 0, 15)]

/-- Subtraction with D = 1, by the actual result -16 to 15, counted from -16. -/
def table247SubDec : List (Nat × Nat × Nat) :=
  [(0, 1, 10), (0, 1, 11), (0, 1, 12), (0, 1, 13), (0, 1, 14), (0, 1, 15), (1, 1, 0), (0, 1, 1)] ++
  [(0, 1, 2), (0, 1, 3), (0, 1, 4), (0, 1, 5), (0, 1, 6), (0, 1, 7), (0, 1, 8), (0, 1, 9)] ++
  [(1, 0, 0), (0, 0, 1), (0, 0, 2), (0, 0, 3), (0, 0, 4), (0, 0, 5), (0, 0, 6), (0, 0, 7)] ++
  [(0, 0, 8), (0, 0, 9), (0, 0, 10), (0, 0, 11), (0, 0, 12), (0, 0, 13), (0, 0, 14), (0, 0, 15)]

/-! ### The invariant -/

/-- What holds in every state of a run. A state outside it is no state of the machine of 10_state.md R20. -/
structure State.Inv (s : State) : Prop where
  /-- The listed RAM words have rising addresses below 4,096 (R64). -/
  ramForm : s.ram.wf 4096 = true
  /-- The listed program words have rising addresses below 8,192 (R61). -/
  romForm : s.rom.wf 8192 = true
  /-- Only addresses that are RAM are listed as RAM (R64). -/
  ramIsRam : ∀ addr : DataAddr, (s.ram.lookup addr.toNat).isSome = true → kindAt s.device addr = .ram
  /-- IDELAY is 1 only while I is 1: only an instruction that leaves I = 1 sets it (R42). -/
  delayNeedsI : s.idelay = true → s.fi = true
  /-- PSETF and IDELAY are not both 1: the previous instruction was at most one of PSET and EI (R41, R42). -/
  oneShadow : ¬ (s.psetf = true ∧ s.idelay = true)
  /-- In HALT and SLEEP both are 0: the previous instruction was HALT or SLP (R41 to R43). -/
  stoppedClean : s.runState ≠ .run → s.psetf = false ∧ s.idelay = false

end Sys2Proof.Machine
end

