-- ==== Sys2Proof/Certificates/Slice0/Obligations.lean ====
section
/-!
DEFINITION. The statements for the provers, from the numbered rules of spec/. The vocabulary (operands, accesses,
frames, the invariant) is Sys2Proof/Safety.lean's.
-/

open Sys2Proof Sys2Proof.Machine

/-- For every p and every state, PSET p completes: NBP is bit 4 of p, NPP bits 3 to 0, PSETF is 1, IDELAY is 0, the
12-bit counter is one higher, and every other register, every flag, every RAM word and the record of peripheral
accesses are unchanged. Its word is 1110 010p pppp and it takes 5 clocks. (40_branch.md R120) -/
def Obligations.PsetLoadsPagePointers : Prop :=
  ∀ (p : BitVec 5) (s : State),
    HasWord (.pset p) (0b1110010#7 ++ p) 5 ∧
    ∃ t, exec (.pset p) s = .next t ∧
      t.nbp = p.extractLsb' 4 1 ∧ t.npp = p.extractLsb' 0 4 ∧ t.psetf = true ∧ t.idelay = false ∧
      t.pc12 = s.pc12 + 1 ∧ Frame [.nbp, .npp] [] [] s t

/-- For every s and every state, each of the six jumps completes. A jump taken (JP and JPBA always; JP C, NC, Z, NZ when
C = 1, C = 0, Z = 1, Z = 0) loads PCS from s (JPBA: from B : A) and PCB and PCP from NBP and NPP if PSETF was 1,
keeps PCB and PCP if it was 0; a conditional jump not taken advances the 12-bit counter by one. PSETF and IDELAY are
0 afterwards and every register, flag, RAM word and peripheral access record is otherwise unchanged. The words and
clocks are those of the opcode map. That the page kept is that of the jump's own address, by PSETF, are the spec's
decisions D3 and D4 (log entry 16). (40_branch.md R121, 40_branch.md R122, 40_branch.md R123, 40_branch.md R124,
40_branch.md R125, 40_branch.md R126, 30_encoding.md R97, 92_eei_decisions.md D3, 92_eei_decisions.md D4) -/
def Obligations.JumpsGoWhereTheySay : Prop :=
  ∀ (step : BitVec 8) (s : State),
    (HasWord (.jp step) (0b0000#4 ++ step) 5 ∧
      ∃ t, exec (.jp step) s = .next t ∧ JumpedTo s t step) ∧
    (HasWord (.jpC step) (0b0010#4 ++ step) 5 ∧
      ∃ t, exec (.jpC step) s = .next t ∧
        (if s.fc = true then JumpedTo s t step else Advanced s t ∧ Frame [] [] [] s t)) ∧
    (HasWord (.jpNC step) (0b0011#4 ++ step) 5 ∧
      ∃ t, exec (.jpNC step) s = .next t ∧
        (if s.fc = false then JumpedTo s t step else Advanced s t ∧ Frame [] [] [] s t)) ∧
    (HasWord (.jpZ step) (0b0110#4 ++ step) 5 ∧
      ∃ t, exec (.jpZ step) s = .next t ∧
        (if s.fz = true then JumpedTo s t step else Advanced s t ∧ Frame [] [] [] s t)) ∧
    (HasWord (.jpNZ step) (0b0111#4 ++ step) 5 ∧
      ∃ t, exec (.jpNZ step) s = .next t ∧
        (if s.fz = false then JumpedTo s t step else Advanced s t ∧ Frame [] [] [] s t)) ∧
    (HasWord (.jpba) (0b111111101000#12) 5 ∧
      ∃ t, exec .jpba s = .next t ∧ JumpedTo s t (s.b ++ s.a))

/-- For every s and every state whose three words below SP can be written, CALL s completes: the 12-bit address of the
CALL plus one (modulo 4096) is pushed, page at SP-1, step high at SP-2, step low at SP-3, SP is three lower, PCP is
NPP if PSETF was 1 and unchanged otherwise, PCS is s; PCB, every other register, every flag and every other RAM word
are unchanged. Its word is 0100 ssss ssss and it takes 7 clocks. That the increment carries through all 12 bits, and
that the page kept is that of the CALL's own address, are the spec's decisions D5 and D4 (log entry 16). The order
of the three stack writes, which a peripheral could see (ACCESS_ORDER, U7), is the spec's decision D18 (log entry
12). (40_branch.md R127, 92_eei_decisions.md D4, 92_eei_decisions.md D5, 92_eei_decisions.md D18) -/
def Obligations.CallPushesTheReturnAddress : Prop :=
  ∀ (step : BitVec 8) (s : State), s.CanPushReturn →
    HasWord (.call step) (0b0100#4 ++ step) 7 ∧
    ∃ t, exec (.call step) s = .next t ∧
      t.pcs = step ∧ t.pcp = (if s.psetf = true then s.npp else s.pcp) ∧ t.psetf = false ∧ t.idelay = false ∧
      PushedReturn s t (s.pc12 + 1) [.sp]

/-- For every s and every state whose three words below SP can be written, CALZ s completes: the return address (its own
12-bit address plus one) is pushed as by CALL, NPP and PCP are 0, PCS is s; PCB, NBP, every other register, every
flag and every other RAM word are unchanged, whether or not a PSET came before. Its word is 0101 ssss ssss and it
takes 7 clocks. That the increment carries through all 12 bits, and that NBP stays, are the spec's decisions D5 and
D7 (log entry 16). The order of the three stack writes, which a peripheral could see (ACCESS_ORDER, U7), is the
spec's decision D18 (log entry 12). (40_branch.md R128, 92_eei_decisions.md D5, 92_eei_decisions.md D7,
92_eei_decisions.md D18) -/
def Obligations.CalzCallsPageZero : Prop :=
  ∀ (step : BitVec 8) (s : State), s.CanPushReturn →
    HasWord (.calz step) (0b0101#4 ++ step) 7 ∧
    ∃ t, exec (.calz step) s = .next t ∧
      t.pcs = step ∧ t.pcp = 0 ∧ t.npp = 0 ∧ t.psetf = false ∧ t.idelay = false ∧
      PushedReturn s t (s.pc12 + 1) [.sp, .npp]

/-- For every state whose three words from SP up can be read, RET and RETS complete: they read step low at SP, step high
at SP+1, page at SP+2, SP is three higher, and the 12-bit counter is that address (RET) or that address plus one
modulo 4096 (RETS); PCB, I, every other register and flag and every RAM word are unchanged, PSETF and IDELAY are 0.
The words are FDFH and FDEH, 7 and 12 clocks. That the skip of RETS carries through all 12 bits is the spec's
decision D5 (log entry 16). The order of the three stack reads, which a peripheral could see (ACCESS_ORDER, U7), is
the spec's decision D18 (log entry 12). (40_branch.md R129, 40_branch.md R130, 92_eei_decisions.md D5,
92_eei_decisions.md D18) -/
def Obligations.RetAndRetsPopTheReturnAddress : Prop :=
  ∀ s : State, s.CanPopReturn →
    (HasWord (.ret) (0b111111011111#12) 7 ∧
      ∃ t, exec .ret s = .next t ∧ t.pc12 = s.poppedReturn ∧ PoppedReturn s t) ∧
    (HasWord (.rets) (0b111111011110#12) 12 ∧
      ∃ t, exec .rets s = .next t ∧ t.pc12 = s.poppedReturn + 1 ∧ PoppedReturn s t)

/-- For every e and every state in which the three stack words can be read and the words at XP:X and XP:(X+1 mod 256)
can be written, RETD e completes: SP is three higher, X two higher modulo 256 with XP unchanged, the low nibble of e
is at XP:X and the high nibble at XP:X+1, the 12-bit counter is the popped address, and nothing else changes. Only
where a stored word is one of the popped words may the address be the one popped after the stores, which the spec
leaves open. Its word is 0001 eeee eeee and it takes 12 clocks. The two orders where the words overlap are those of
93_implementation_defined.md U6; which of them is taken is a free value (log entry 6). The order inside the three
reads and inside the two stores, which a peripheral could see (ACCESS_ORDER, U7), is the spec's decision D18 (log
entry 12). (40_branch.md R131, 92_eei_decisions.md D17, 92_eei_decisions.md D18) -/
def Obligations.RetdStoresTwoWordsAndReturns : Prop :=
  ∀ (e : BitVec 8) (s : State), s.CanPopReturn → s.CanWrite s.ix → s.CanWrite s.ixNext →
    let stores : List BusEvent := [.write s.ix (e.extractLsb' 0 4), .write s.ixNext (e.extractLsb' 4 4)]
    let stored : State := (s.afterWrite s.ix (e.extractLsb' 0 4)).afterWrite s.ixNext (e.extractLsb' 4 4)
    let stack : List DataAddr := [stackAddr s.sp, stackAddr (s.sp + 1), stackAddr (s.sp + 2)]
    HasWord (.retd e) (0b0001#4 ++ e) 12 ∧
    ∃ t, exec (.retd e) s = .next t ∧
      t.xhl = s.xhl + 2 ∧ t.sp = s.sp + 3 ∧ t.psetf = false ∧ t.idelay = false ∧
      (kindAt s.device s.ix = .ram → t.ramWord s.ix = e.extractLsb' 0 4) ∧
      (kindAt s.device s.ixNext = .ram → t.ramWord s.ixNext = e.extractLsb' 4 4) ∧
      ((t.pc12 = s.poppedReturn ∧
          Frame [.xh, .xl, .sp, .draws] [s.ix, s.ixNext] (s.returnReads ++ stores) s t) ∨
       ((s.ix ∈ stack ∨ s.ixNext ∈ stack) ∧ t.pc12 = stored.poppedReturn ∧
          Frame [.xh, .xl, .sp, .draws] [s.ix, s.ixNext] (stores ++ stored.returnReads) s t))

/-- In every state NOP5 and NOP7 complete: the 12-bit counter is one higher, PSETF and IDELAY are 0, and every register,
flag, RAM word and the record of peripheral accesses are unchanged. Their words are FFBH and FFFH, 5 and 7 clocks.
(41_system_control.md R140, 41_system_control.md R141) -/
def Obligations.NopsOnlyAdvance : Prop :=
  ∀ s : State,
    (HasWord (.nop5) (0b111111111011#12) 5 ∧ ∃ t, exec .nop5 s = .next t ∧ Advanced s t ∧ Frame [] [] [] s t) ∧
    (HasWord (.nop7) (0b111111111111#12) 7 ∧ ∃ t, exec .nop7 s = .next t ∧ Advanced s t ∧ Frame [] [] [] s t)

/-- In every state HALT and SLP complete: the 12-bit counter is one higher, RUNSTATE is HALT or SLEEP, PSETF and IDELAY
are 0, nothing is pushed and nothing else changes. In every state that is stopped, a step at a boundary with no
reset and no accepted request changes nothing (it only uses up that boundary's input). Words FF8H and FF9H, 5 clocks
each. That nothing is pushed by HALT and SLP themselves is the spec's decision D10 (log entry 16).
(41_system_control.md R142, 41_system_control.md R143, 10_state.md R43, 10_state.md R45, 92_eei_decisions.md D10) -/
def Obligations.HaltAndSlpStopUntilAnInterrupt : Prop :=
  ∀ s : State,
    (HasWord (.halt) (0b111111111000#12) 5 ∧
      ∃ t, exec .halt s = .next t ∧ t.runState = .halt ∧ Advanced s t ∧ Frame [.runState] [] [] s t) ∧
    (HasWord (.slp) (0b111111111001#12) 5 ∧
      ∃ t, exec .slp s = .next t ∧ t.runState = .sleep ∧ Advanced s t ∧ Frame [.runState] [] [] s t) ∧
    (s.runState ≠ .run → s.nextInput.reset = false → (s.nextInput.irq = none ∨ s.acceptsInterrupt = false) →
      step s = .next s.atBoundary)

/-- In every state INC X and INC Y add 1 to X or Y modulo 256, LD X,e and LD Y,e load it with e; XP, YP, every other
register, every flag and every RAM word are unchanged and the program counter advances. Words EE0H, EF0H, 1011 eeee
eeee, 1000 eeee eeee, 5 clocks each. (42_index.md R150, 42_index.md R151, 42_index.md R152, 42_index.md R153) -/
def Obligations.IncrementAndLoadIndex : Prop :=
  ∀ (e : BitVec 8) (s : State),
    (HasWord (.incX) (0b111011100000#12) 5 ∧
      ∃ t, exec .incX s = .next t ∧ t.xhl = s.xhl + 1 ∧ Advanced s t ∧ Frame [.xh, .xl] [] [] s t) ∧
    (HasWord (.incY) (0b111011110000#12) 5 ∧
      ∃ t, exec .incY s = .next t ∧ t.yhl = s.yhl + 1 ∧ Advanced s t ∧ Frame [.yh, .yl] [] [] s t) ∧
    (HasWord (.ldXE e) (0b1011#4 ++ e) 5 ∧
      ∃ t, exec (.ldXE e) s = .next t ∧ t.xhl = e ∧ Advanced s t ∧ Frame [.xh, .xl] [] [] s t) ∧
    (HasWord (.ldYE e) (0b1000#4 ++ e) 5 ∧
      ∃ t, exec (.ldYE e) s = .next t ∧ t.yhl = e ∧ Advanced s t ∧ Frame [.yh, .yl] [] [] s t)

/-- For every operand A, B, MX, MY that can be read, the six instructions complete: the named part of IX or IY holds
what the operand held when the instruction started, and every other register, every flag and every RAM word are
unchanged; a peripheral operand sees one read. Words 1110 1000 00rr to 1110 1001 10rr, 5 clocks each. (42_index.md
R154, 42_index.md R155, 42_index.md R156, 42_index.md R157, 42_index.md R158, 42_index.md R159) -/
def Obligations.LoadPartOfIndexFromOperand : Prop :=
  ∀ (r : Reg) (s : State), s.CanReadOperand r →
    (HasWord (.ldXPR r) (0b1110100000#10 ++ Reg.code r) 5 ∧
      ∃ t, exec (.ldXPR r) s = .next t ∧ t.xp = s.operand r ∧ Advanced s t ∧
        Frame [.xp] [] (s.reads r (s.operand r)) s t) ∧
    (HasWord (.ldXHR r) (0b1110100001#10 ++ Reg.code r) 5 ∧
      ∃ t, exec (.ldXHR r) s = .next t ∧ t.xh = s.operand r ∧ Advanced s t ∧
        Frame [.xh] [] (s.reads r (s.operand r)) s t) ∧
    (HasWord (.ldXLR r) (0b1110100010#10 ++ Reg.code r) 5 ∧
      ∃ t, exec (.ldXLR r) s = .next t ∧ t.xl = s.operand r ∧ Advanced s t ∧
        Frame [.xl] [] (s.reads r (s.operand r)) s t) ∧
    (HasWord (.ldYPR r) (0b1110100100#10 ++ Reg.code r) 5 ∧
      ∃ t, exec (.ldYPR r) s = .next t ∧ t.yp = s.operand r ∧ Advanced s t ∧
        Frame [.yp] [] (s.reads r (s.operand r)) s t) ∧
    (HasWord (.ldYHR r) (0b1110100101#10 ++ Reg.code r) 5 ∧
      ∃ t, exec (.ldYHR r) s = .next t ∧ t.yh = s.operand r ∧ Advanced s t ∧
        Frame [.yh] [] (s.reads r (s.operand r)) s t) ∧
    (HasWord (.ldYLR r) (0b1110100110#10 ++ Reg.code r) 5 ∧
      ∃ t, exec (.ldYLR r) s = .next t ∧ t.yl = s.operand r ∧ Advanced s t ∧
        Frame [.yl] [] (s.reads r (s.operand r)) s t)

/-- For every operand A, B, MX, MY that can be written, the six instructions complete: the operand takes the named part
of IX or IY; every other register, every flag and every other RAM word are unchanged; a peripheral operand sees one
write and no read. Words 1110 1010 00rr to 1110 1011 10rr, 5 clocks each. (42_index.md R160, 42_index.md R161,
42_index.md R162, 42_index.md R163, 42_index.md R164, 42_index.md R165) -/
def Obligations.LoadOperandFromPartOfIndex : Prop :=
  ∀ (r : Reg) (s : State), s.CanWriteOperand r →
    (HasWord (.ldRXP r) (0b1110101000#10 ++ Reg.code r) 5 ∧
      ∃ t, exec (.ldRXP r) s = .next t ∧ s.OperandTook t r s.xp ∧ Advanced s t ∧
        Frame (destPieces r) (s.operandAddrs r) (s.writes r s.xp) s t) ∧
    (HasWord (.ldRXH r) (0b1110101001#10 ++ Reg.code r) 5 ∧
      ∃ t, exec (.ldRXH r) s = .next t ∧ s.OperandTook t r s.xh ∧ Advanced s t ∧
        Frame (destPieces r) (s.operandAddrs r) (s.writes r s.xh) s t) ∧
    (HasWord (.ldRXL r) (0b1110101010#10 ++ Reg.code r) 5 ∧
      ∃ t, exec (.ldRXL r) s = .next t ∧ s.OperandTook t r s.xl ∧ Advanced s t ∧
        Frame (destPieces r) (s.operandAddrs r) (s.writes r s.xl) s t) ∧
    (HasWord (.ldRYP r) (0b1110101100#10 ++ Reg.code r) 5 ∧
      ∃ t, exec (.ldRYP r) s = .next t ∧ s.OperandTook t r s.yp ∧ Advanced s t ∧
        Frame (destPieces r) (s.operandAddrs r) (s.writes r s.yp) s t) ∧
    (HasWord (.ldRYH r) (0b1110101101#10 ++ Reg.code r) 5 ∧
      ∃ t, exec (.ldRYH r) s = .next t ∧ s.OperandTook t r s.yh ∧ Advanced s t ∧
        Frame (destPieces r) (s.operandAddrs r) (s.writes r s.yh) s t) ∧
    (HasWord (.ldRYL r) (0b1110101110#10 ++ Reg.code r) 5 ∧
      ∃ t, exec (.ldRYL r) s = .next t ∧ s.OperandTook t r s.yl ∧ Advanced s t ∧
        Frame (destPieces r) (s.operandAddrs r) (s.writes r s.yl) s t)

/-- For every i and every state, ADC XH,i, ADC XL,i, ADC YH,i and ADC YL,i complete: with t the part plus i plus C, the
part is t mod 16, C is 1 exactly when t is 16 or more, Z is 1 exactly when t mod 16 is 0, which is what ADD4 gives
with decimal correction off, whatever D holds; nothing else changes but the two ALU latches, which no instruction
reads, so that no carry goes from XL into XH or from XH into XP. CP XH,i, CP XL,i, CP YH,i and CP YL,i complete with
C and Z those of SUB4 with no borrow in and decimal correction off, whatever C and D held. The words of ADC are 1010
0000 iiii to 1010 0011 iiii, 7 clocks each. (42_index.md R166, 42_index.md R167, 42_index.md R168, 42_index.md R169,
42_index.md R174) -/
def Obligations.AddWithCarryToPartOfIndex : Prop :=
  ∀ (i : Nibble) (s : State),
    (HasWord (.adcXHI i) (0b10100000#8 ++ i) 7 ∧
      ∃ t, exec (.adcXHI i) s = .next t ∧
        t.xh.toNat = (s.xh.toNat + i.toNat + s.fc.toNat) % 16 ∧
        t.fc = decide (16 ≤ s.xh.toNat + i.toNat + s.fc.toNat) ∧
        t.fz = decide ((s.xh.toNat + i.toNat + s.fc.toNat) % 16 = 0) ∧
        (t.xh = (add4 s.xh i s.fc false).out ∧ t.fc = (add4 s.xh i s.fc false).c ∧
          t.fz = (add4 s.xh i s.fc false).z) ∧
        Advanced s t ∧ Frame [.xh, .fc, .fz, .tempA, .tempB] [] [] s t) ∧
    (HasWord (.adcXLI i) (0b10100001#8 ++ i) 7 ∧
      ∃ t, exec (.adcXLI i) s = .next t ∧
        t.xl.toNat = (s.xl.toNat + i.toNat + s.fc.toNat) % 16 ∧
        t.fc = decide (16 ≤ s.xl.toNat + i.toNat + s.fc.toNat) ∧
        t.fz = decide ((s.xl.toNat + i.toNat + s.fc.toNat) % 16 = 0) ∧
        (t.xl = (add4 s.xl i s.fc false).out ∧ t.fc = (add4 s.xl i s.fc false).c ∧
          t.fz = (add4 s.xl i s.fc false).z) ∧
        Advanced s t ∧ Frame [.xl, .fc, .fz, .tempA, .tempB] [] [] s t) ∧
    (HasWord (.adcYHI i) (0b10100010#8 ++ i) 7 ∧
      ∃ t, exec (.adcYHI i) s = .next t ∧
        t.yh.toNat = (s.yh.toNat + i.toNat + s.fc.toNat) % 16 ∧
        t.fc = decide (16 ≤ s.yh.toNat + i.toNat + s.fc.toNat) ∧
        t.fz = decide ((s.yh.toNat + i.toNat + s.fc.toNat) % 16 = 0) ∧
        (t.yh = (add4 s.yh i s.fc false).out ∧ t.fc = (add4 s.yh i s.fc false).c ∧
          t.fz = (add4 s.yh i s.fc false).z) ∧
        Advanced s t ∧ Frame [.yh, .fc, .fz, .tempA, .tempB] [] [] s t) ∧
    (HasWord (.adcYLI i) (0b10100011#8 ++ i) 7 ∧
      ∃ t, exec (.adcYLI i) s = .next t ∧
        t.yl.toNat = (s.yl.toNat + i.toNat + s.fc.toNat) % 16 ∧
        t.fc = decide (16 ≤ s.yl.toNat + i.toNat + s.fc.toNat) ∧
        t.fz = decide ((s.yl.toNat + i.toNat + s.fc.toNat) % 16 = 0) ∧
        (t.yl = (add4 s.yl i s.fc false).out ∧ t.fc = (add4 s.yl i s.fc false).c ∧
          t.fz = (add4 s.yl i s.fc false).z) ∧
        Advanced s t ∧ Frame [.yl, .fc, .fz, .tempA, .tempB] [] [] s t) ∧
    (∃ t, exec (.cpXHI i) s = .next t ∧ t.fc = (sub4 s.xh i false false).c ∧
        t.fz = (sub4 s.xh i false false).z ∧ Frame [.fc, .fz, .tempA, .tempB] [] [] s t) ∧
    (∃ t, exec (.cpXLI i) s = .next t ∧ t.fc = (sub4 s.xl i false false).c ∧
        t.fz = (sub4 s.xl i false false).z ∧ Frame [.fc, .fz, .tempA, .tempB] [] [] s t) ∧
    (∃ t, exec (.cpYHI i) s = .next t ∧ t.fc = (sub4 s.yh i false false).c ∧
        t.fz = (sub4 s.yh i false false).z ∧ Frame [.fc, .fz, .tempA, .tempB] [] [] s t) ∧
    (∃ t, exec (.cpYLI i) s = .next t ∧ t.fc = (sub4 s.yl i false false).c ∧
        t.fz = (sub4 s.yl i false false).z ∧ Frame [.fc, .fz, .tempA, .tempB] [] [] s t)

/-- For every i and every state, CP XH,i, CP XL,i, CP YH,i and CP YL,i complete: C is 1 exactly when the part is below i
as unsigned numbers, Z is 1 exactly when they are equal, whatever C and D held; every register and RAM word is
unchanged but the two ALU latches. Words 1010 0100 iiii to 1010 0111 iiii, 7 clocks each. (42_index.md R170,
42_index.md R171, 42_index.md R172, 42_index.md R173) -/
def Obligations.ComparePartOfIndex : Prop :=
  ∀ (i : Nibble) (s : State),
    (HasWord (.cpXHI i) (0b10100100#8 ++ i) 7 ∧
      ∃ t, exec (.cpXHI i) s = .next t ∧ t.fc = decide (s.xh.toNat < i.toNat) ∧ t.fz = decide (s.xh = i) ∧
        Advanced s t ∧ Frame [.fc, .fz, .tempA, .tempB] [] [] s t) ∧
    (HasWord (.cpXLI i) (0b10100101#8 ++ i) 7 ∧
      ∃ t, exec (.cpXLI i) s = .next t ∧ t.fc = decide (s.xl.toNat < i.toNat) ∧ t.fz = decide (s.xl = i) ∧
        Advanced s t ∧ Frame [.fc, .fz, .tempA, .tempB] [] [] s t) ∧
    (HasWord (.cpYHI i) (0b10100110#8 ++ i) 7 ∧
      ∃ t, exec (.cpYHI i) s = .next t ∧ t.fc = decide (s.yh.toNat < i.toNat) ∧ t.fz = decide (s.yh = i) ∧
        Advanced s t ∧ Frame [.fc, .fz, .tempA, .tempB] [] [] s t) ∧
    (HasWord (.cpYLI i) (0b10100111#8 ++ i) 7 ∧
      ∃ t, exec (.cpYLI i) s = .next t ∧ t.fc = decide (s.yl.toNat < i.toNat) ∧ t.fz = decide (s.yl = i) ∧
        Advanced s t ∧ Frame [.fc, .fz, .tempA, .tempB] [] [] s t)

/-- For every operand that can be written and every i, LD r,i completes: the operand takes i; every other register,
every flag and every other RAM word are unchanged; a peripheral operand sees one write and no read. Word 1110 00rr
iiii, 5 clocks. (43_data_transfer.md R180) -/
def Obligations.LoadImmediate : Prop :=
  ∀ (r : Reg) (i : Nibble) (s : State), s.CanWriteOperand r →
    HasWord (.ldRI r i) (0b111000#6 ++ Reg.code r ++ i) 5 ∧
    ∃ t, exec (.ldRI r i) s = .next t ∧ s.OperandTook t r i ∧ Advanced s t ∧
      Frame (destPieces r) (s.operandAddrs r) (s.writes r i) s t

/-- For every pair of operands, q readable and r writable, LD r,q completes: r takes what q held; every other register,
every flag and every other RAM word are unchanged; peripheral operands see one read of q and then one write of r.
Word 1110 1100 rrqq, 5 clocks. (43_data_transfer.md R181) -/
def Obligations.LoadRegister : Prop :=
  ∀ (r q : Reg) (s : State), s.CanReadOperand q → s.CanWriteOperand r →
    HasWord (.ldRQ r q) (0b11101100#8 ++ Reg.code r ++ Reg.code q) 5 ∧
    ∃ t, exec (.ldRQ r q) s = .next t ∧ s.OperandTook t r (s.operand q) ∧ Advanced s t ∧
      Frame (destPieces r) (s.operandAddrs r) (s.reads q (s.operand q) ++ s.writes r (s.operand q)) s t

/-- For every n and every state in which address 00nH can be read (loads) or written (stores), the four instructions
complete: A or B takes the word at 00nH, or the word at 00nH takes A or B; every other register, every flag and
every other RAM word are unchanged (RP, which no instruction reads, may change); a peripheral there sees the one
access. Words 1111 1010 nnnn, 1111 1011 nnnn, 1111 1000 nnnn, 1111 1001 nnnn, 5 clocks each. (43_data_transfer.md
R182, 43_data_transfer.md R183, 43_data_transfer.md R184, 43_data_transfer.md R185) -/
def Obligations.DirectLoadsAndStores : Prop :=
  ∀ (n : Nibble) (s : State),
    (directAddr n).toNat = n.toNat ∧
    (s.CanRead (directAddr n) → HasWord (.ldAMn n) (0b11111010#8 ++ n) 5 ∧
      ∃ t, exec (.ldAMn n) s = .next t ∧ t.a = s.readValue (directAddr n) ∧ Advanced s t ∧
        Frame [.a, .rp] [] [.read (directAddr n) (s.readValue (directAddr n))] s t) ∧
    (s.CanRead (directAddr n) → HasWord (.ldBMn n) (0b11111011#8 ++ n) 5 ∧
      ∃ t, exec (.ldBMn n) s = .next t ∧ t.b = s.readValue (directAddr n) ∧ Advanced s t ∧
        Frame [.b, .rp] [] [.read (directAddr n) (s.readValue (directAddr n))] s t) ∧
    (s.CanWrite (directAddr n) → HasWord (.ldMnA n) (0b11111000#8 ++ n) 5 ∧
      ∃ t, exec (.ldMnA n) s = .next t ∧
        (kindAt s.device (directAddr n) = .ram → t.ramWord (directAddr n) = s.a) ∧ Advanced s t ∧
        Frame [.rp] [directAddr n] [.write (directAddr n) s.a] s t) ∧
    (s.CanWrite (directAddr n) → HasWord (.ldMnB n) (0b11111001#8 ++ n) 5 ∧
      ∃ t, exec (.ldMnB n) s = .next t ∧
        (kindAt s.device (directAddr n) = .ram → t.ramWord (directAddr n) = s.b) ∧ Advanced s t ∧
        Frame [.rp] [directAddr n] [.write (directAddr n) s.b] s t)

/-- For every i and every state in which the word at IX (IY) can be written, LDPX MX,i (LDPY MY,i) completes: the word
at IX (IY) as it was takes i, X (Y) is one higher modulo 256, XP, YP, every other register, every flag and every
other RAM word are unchanged. Words 1110 0110 iiii and 1110 0111 iiii, 5 clocks each. (43_data_transfer.md R186,
43_data_transfer.md R188) -/
def Obligations.StoreImmediateAndIncrement : Prop :=
  ∀ (i : Nibble) (s : State),
    (s.CanWrite s.ix → HasWord (.ldpxMXI i) (0b11100110#8 ++ i) 5 ∧
      ∃ t, exec (.ldpxMXI i) s = .next t ∧ (kindAt s.device s.ix = .ram → t.ramWord s.ix = i) ∧
        t.xhl = s.xhl + 1 ∧ Advanced s t ∧ Frame [.xh, .xl] [s.ix] [.write s.ix i] s t) ∧
    (s.CanWrite s.iy → HasWord (.ldpyMYI i) (0b11100111#8 ++ i) 5 ∧
      ∃ t, exec (.ldpyMYI i) s = .next t ∧ (kindAt s.device s.iy = .ram → t.ramWord s.iy = i) ∧
        t.yhl = s.yhl + 1 ∧ Advanced s t ∧ Frame [.yh, .yl] [s.iy] [.write s.iy i] s t)

/-- For every pair of operands, q readable and r writable, LDPX r,q and LDPY r,q complete: r takes what q held, both
addressed by the old IX and IY; then X (Y) is one higher modulo 256 even when neither operand is MX (MY); nothing
else changes and no flag does. Words 1110 1110 rrqq and 1110 1111 rrqq, 5 clocks each. (43_data_transfer.md R187,
43_data_transfer.md R189) -/
def Obligations.MoveAndIncrement : Prop :=
  ∀ (r q : Reg) (s : State), s.CanReadOperand q → s.CanWriteOperand r →
    (HasWord (.ldpxRQ r q) (0b11101110#8 ++ Reg.code r ++ Reg.code q) 5 ∧
      ∃ t, exec (.ldpxRQ r q) s = .next t ∧ s.OperandTook t r (s.operand q) ∧ t.xhl = s.xhl + 1 ∧ Advanced s t ∧
        Frame (.xh :: .xl :: destPieces r) (s.operandAddrs r) (s.reads q (s.operand q) ++ s.writes r (s.operand q)) s t) ∧
    (HasWord (.ldpyRQ r q) (0b11101111#8 ++ Reg.code r ++ Reg.code q) 5 ∧
      ∃ t, exec (.ldpyRQ r q) s = .next t ∧ s.OperandTook t r (s.operand q) ∧ t.yhl = s.yhl + 1 ∧ Advanced s t ∧
        Frame (.yh :: .yl :: destPieces r) (s.operandAddrs r) (s.reads q (s.operand q) ++ s.writes r (s.operand q)) s t)

/-- For every e and every state in which the words at XP:X and XP:(X+1 mod 256) can be written, LBPX MX,e completes: the
low nibble of e goes to the first and the high nibble to the second, in that order, X is two higher modulo 256, and
XP, every other register, every flag and every other RAM word are unchanged. Word 1001 eeee eeee, 5 clocks. The
order of the two stores, which a peripheral could see (ACCESS_ORDER, U7), is the spec's decision D18 (log entry 12).
(43_data_transfer.md R190, 92_eei_decisions.md D18) -/
def Obligations.LbpxStoresAByteInTwoWords : Prop :=
  ∀ (e : BitVec 8) (s : State), s.CanWrite s.ix → s.CanWrite s.ixNext →
    HasWord (.lbpxMXE e) (0b1001#4 ++ e) 5 ∧
    ∃ t, exec (.lbpxMXE e) s = .next t ∧
      (kindAt s.device s.ix = .ram → t.ramWord s.ix = e.extractLsb' 0 4) ∧
      (kindAt s.device s.ixNext = .ram → t.ramWord s.ixNext = e.extractLsb' 4 4) ∧
      t.xhl = s.xhl + 2 ∧ Advanced s t ∧
      Frame [.xh, .xl] [s.ix, s.ixNext] [.write s.ix (e.extractLsb' 0 4), .write s.ixNext (e.extractLsb' 4 4)] s t

/-- For every i and every state SET F,i completes: C, Z, D, I are each set if bit 0, 1, 2, 3 of i is 1 and unchanged
otherwise; IDELAY is 1 if it turned I from 0 to 1 and 0 if bit 3 of i is 0 (if I was 1 already and bit 3 is 1 the
spec leaves IDELAY open and the statement holds for both); every register and RAM word is unchanged. Word 1111 0100
iiii, 7 clocks. (44_flag.md R200) -/
def Obligations.SetFlagsImmediate : Prop :=
  ∀ (i : Nibble) (s : State),
    HasWord (.setF i) (0b11110100#8 ++ i) 7 ∧
    ∃ t, exec (.setF i) s = .next t ∧
      t.fc = (s.fc || i.getLsbD 0) ∧ t.fz = (s.fz || i.getLsbD 1) ∧
      t.fd = (s.fd || i.getLsbD 2) ∧ t.fi = (s.fi || i.getLsbD 3) ∧
      (i.getLsbD 3 = true → s.fi = false → t.idelay = true) ∧ (i.getLsbD 3 = false → t.idelay = false) ∧
      t.psetf = false ∧ t.pc12 = s.pc12 + 1 ∧ Frame [.fc, .fz, .fd, .fi, .draws] [] [] s t

/-- For every i and every state RST F,i completes: C, Z, D, I are each reset if bit 0, 1, 2, 3 of i is 0 and unchanged
otherwise, so that none is ever set; with bit 3 of i at 0 no interrupt can be accepted at the boundary after it;
every register and RAM word is unchanged. Word 1111 0101 iiii, 7 clocks. (44_flag.md R201) -/
def Obligations.ResetFlagsImmediate : Prop :=
  ∀ (i : Nibble) (s : State),
    HasWord (.rstF i) (0b11110101#8 ++ i) 7 ∧
    ∃ t, exec (.rstF i) s = .next t ∧
      t.fc = (s.fc && i.getLsbD 0) ∧ t.fz = (s.fz && i.getLsbD 1) ∧
      t.fd = (s.fd && i.getLsbD 2) ∧ t.fi = (s.fi && i.getLsbD 3) ∧
      Advanced s t ∧ Frame [.fc, .fz, .fd, .fi] [] [] s t ∧
      (i.getLsbD 3 = false → t.acceptsInterrupt = false)

/-- In every state SCF, RCF, SZF, RZF, SDF, RDF and DI complete: the one flag each names is set or reset, the other
three flags, every register and every RAM word are unchanged, and the program counter advances; after DI no request
is accepted at the next boundary. Words F41H, F5EH, F42H, F5DH, F44H, F5BH, F57H, 7 clocks each. (44_flag.md R202,
44_flag.md R203, 44_flag.md R204, 44_flag.md R205, 44_flag.md R206, 44_flag.md R207, 44_flag.md R209) -/
def Obligations.OneFlagInstructions : Prop :=
  ∀ s : State,
    (HasWord (.scf) (0b111101000001#12) 7 ∧
      ∃ t, exec .scf s = .next t ∧ t.fc = true ∧ Advanced s t ∧ Frame [.fc] [] [] s t) ∧
    (HasWord (.rcf) (0b111101011110#12) 7 ∧
      ∃ t, exec .rcf s = .next t ∧ t.fc = false ∧ Advanced s t ∧ Frame [.fc] [] [] s t) ∧
    (HasWord (.szf) (0b111101000010#12) 7 ∧
      ∃ t, exec .szf s = .next t ∧ t.fz = true ∧ Advanced s t ∧ Frame [.fz] [] [] s t) ∧
    (HasWord (.rzf) (0b111101011101#12) 7 ∧
      ∃ t, exec .rzf s = .next t ∧ t.fz = false ∧ Advanced s t ∧ Frame [.fz] [] [] s t) ∧
    (HasWord (.sdf) (0b111101000100#12) 7 ∧
      ∃ t, exec .sdf s = .next t ∧ t.fd = true ∧ Advanced s t ∧ Frame [.fd] [] [] s t) ∧
    (HasWord (.rdf) (0b111101011011#12) 7 ∧
      ∃ t, exec .rdf s = .next t ∧ t.fd = false ∧ Advanced s t ∧ Frame [.fd] [] [] s t) ∧
    (HasWord (.di) (0b111101010111#12) 7 ∧
      ∃ t, exec .di s = .next t ∧ t.fi = false ∧ Advanced s t ∧ Frame [.fi] [] [] s t ∧
        t.acceptsInterrupt = false)

/-- In every state EI completes: I is 1, C, Z, D, every register and every RAM word are unchanged and the program
counter advances; if I was 0 before, IDELAY is 1 and no request is accepted at the next boundary (if I was 1 already
the spec leaves IDELAY open). Word F48H, 7 clocks. (44_flag.md R208) -/
def Obligations.EiEnablesAfterOneMoreInstruction : Prop :=
  ∀ s : State,
    HasWord (.ei) (0b111101001000#12) 7 ∧
    ∃ t, exec .ei s = .next t ∧ t.fi = true ∧ t.psetf = false ∧ t.pc12 = s.pc12 + 1 ∧
      Frame [.fi, .draws] [] [] s t ∧
      (s.fi = false → t.idelay = true ∧ t.acceptsInterrupt = false)

/-- In every state INC SP and DEC SP complete: SP is one higher or lower modulo 256; no memory access is made and every
other register, every flag and every RAM word are unchanged. Words FDBH and FCBH, 5 clocks each. (45_stack.md R215,
45_stack.md R216) -/
def Obligations.StackPointerSteps : Prop :=
  ∀ s : State,
    (HasWord (.incSP) (0b111111011011#12) 5 ∧
      ∃ t, exec .incSP s = .next t ∧ t.sp = s.sp + 1 ∧ Advanced s t ∧ Frame [.sp] [] [] s t) ∧
    (HasWord (.decSP) (0b111111001011#12) 5 ∧
      ∃ t, exec .decSP s = .next t ∧ t.sp = s.sp - 1 ∧ Advanced s t ∧ Frame [.sp] [] [] s t)

/-- For every operand that can be read, in every state whose word below SP can be written, PUSH r completes: SP is one
lower modulo 256 and the word at the new SP, in page 0, takes what the operand held before; every other register,
every flag and every other RAM word are unchanged; a memory operand is read before the stack word is written. Word
1111 1100 00rr, 5 clocks. (45_stack.md R217) -/
def Obligations.PushOperand : Prop :=
  ∀ (r : Reg) (s : State), s.CanReadOperand r → s.CanWrite (stackAddr (s.sp - 1)) →
    HasWord (.pushR r) (0b1111110000#10 ++ Reg.code r) 5 ∧
    ∃ t, exec (.pushR r) s = .next t ∧ Pushed s t (s.operand r) (s.reads r (s.operand r)) ∧ Advanced s t

/-- In every state whose word below SP can be written, the seven instructions complete: SP is one lower modulo 256 and
the word at the new SP, in page 0, takes the part of IX or IY, or for PUSH F the flags as I : D : Z : C; every other
register, every flag and every other RAM word are unchanged. Words FC4H to FCAH, 5 clocks each. (45_stack.md R218,
45_stack.md R219, 45_stack.md R220, 45_stack.md R221, 45_stack.md R222, 45_stack.md R223, 45_stack.md R224) -/
def Obligations.PushPartOfIndexOrFlags : Prop :=
  ∀ s : State, s.CanWrite (stackAddr (s.sp - 1)) →
    (HasWord (.pushXP) (0b111111000100#12) 5 ∧ ∃ t, exec .pushXP s = .next t ∧ Pushed s t (s.xp) [] ∧ Advanced s t) ∧
    (HasWord (.pushXH) (0b111111000101#12) 5 ∧ ∃ t, exec .pushXH s = .next t ∧ Pushed s t (s.xh) [] ∧ Advanced s t) ∧
    (HasWord (.pushXL) (0b111111000110#12) 5 ∧ ∃ t, exec .pushXL s = .next t ∧ Pushed s t (s.xl) [] ∧ Advanced s t) ∧
    (HasWord (.pushYP) (0b111111000111#12) 5 ∧ ∃ t, exec .pushYP s = .next t ∧ Pushed s t (s.yp) [] ∧ Advanced s t) ∧
    (HasWord (.pushYH) (0b111111001000#12) 5 ∧ ∃ t, exec .pushYH s = .next t ∧ Pushed s t (s.yh) [] ∧ Advanced s t) ∧
    (HasWord (.pushYL) (0b111111001001#12) 5 ∧ ∃ t, exec .pushYL s = .next t ∧ Pushed s t (s.yl) [] ∧ Advanced s t) ∧
    (HasWord (.pushF) (0b111111001010#12) 5 ∧ ∃ t, exec .pushF s = .next t ∧ Pushed s t (BitVec.ofBool s.fi ++ BitVec.ofBool s.fd ++ BitVec.ofBool s.fz ++ BitVec.ofBool s.fc) [] ∧ Advanced s t)

/-- In every state whose word at SP, in page 0, can be read and for every operand that can be written, POP r completes:
the operand takes that word, SP is one higher modulo 256; every other register, every flag and every other RAM word
are unchanged. Word 1111 1101 00rr, 5 clocks. (45_stack.md R225) -/
def Obligations.PopOperand : Prop :=
  ∀ (r : Reg) (s : State), s.CanRead (stackAddr s.sp) → s.CanWriteOperand r →
    let v := s.readValue (stackAddr s.sp)
    HasWord (.popR r) (0b1111110100#10 ++ Reg.code r) 5 ∧
    ∃ t, exec (.popR r) s = .next t ∧ s.OperandTook t r v ∧ t.sp = s.sp + 1 ∧ Advanced s t ∧
      Frame (.sp :: destPieces r) (s.operandAddrs r) (.read (stackAddr s.sp) v :: s.writes r v) s t

/-- In every state whose word at SP, in page 0, can be read, the six instructions complete: the named part of IX or IY
takes that word, SP is one higher modulo 256, and every other register, every flag and every RAM word are unchanged.
Words FD4H to FD9H, 5 clocks each. (45_stack.md R226, 45_stack.md R227, 45_stack.md R228, 45_stack.md R229,
45_stack.md R230, 45_stack.md R231) -/
def Obligations.PopPartOfIndex : Prop :=
  ∀ s : State, s.CanRead (stackAddr s.sp) →
    let v := s.readValue (stackAddr s.sp)
    (HasWord (.popXP) (0b111111010100#12) 5 ∧
      ∃ t, exec .popXP s = .next t ∧ t.xp = v ∧ t.sp = s.sp + 1 ∧ Advanced s t ∧
        Frame [.xp, .sp] [] [.read (stackAddr s.sp) v] s t) ∧
    (HasWord (.popXH) (0b111111010101#12) 5 ∧
      ∃ t, exec .popXH s = .next t ∧ t.xh = v ∧ t.sp = s.sp + 1 ∧ Advanced s t ∧
        Frame [.xh, .sp] [] [.read (stackAddr s.sp) v] s t) ∧
    (HasWord (.popXL) (0b111111010110#12) 5 ∧
      ∃ t, exec .popXL s = .next t ∧ t.xl = v ∧ t.sp = s.sp + 1 ∧ Advanced s t ∧
        Frame [.xl, .sp] [] [.read (stackAddr s.sp) v] s t) ∧
    (HasWord (.popYP) (0b111111010111#12) 5 ∧
      ∃ t, exec .popYP s = .next t ∧ t.yp = v ∧ t.sp = s.sp + 1 ∧ Advanced s t ∧
        Frame [.yp, .sp] [] [.read (stackAddr s.sp) v] s t) ∧
    (HasWord (.popYH) (0b111111011000#12) 5 ∧
      ∃ t, exec .popYH s = .next t ∧ t.yh = v ∧ t.sp = s.sp + 1 ∧ Advanced s t ∧
        Frame [.yh, .sp] [] [.read (stackAddr s.sp) v] s t) ∧
    (HasWord (.popYL) (0b111111011001#12) 5 ∧
      ∃ t, exec .popYL s = .next t ∧ t.yl = v ∧ t.sp = s.sp + 1 ∧ Advanced s t ∧
        Frame [.yl, .sp] [] [.read (stackAddr s.sp) v] s t)

/-- In every state whose word at SP, in page 0, can be read, POP F completes: I, D, Z, C are bits 3, 2, 1, 0 of that
word, SP is one higher modulo 256, IDELAY is 0 unless I went from 0 to 1 (then the spec leaves it open and the
statement holds for both), and every other register and every RAM word are unchanged. Word FDAH, 5 clocks.
(45_stack.md R232) -/
def Obligations.PopFlags : Prop :=
  ∀ s : State, s.CanRead (stackAddr s.sp) →
    let v := s.readValue (stackAddr s.sp)
    HasWord (.popF) (0b111111011010#12) 5 ∧
    ∃ t, exec .popF s = .next t ∧
      t.fi = v.getLsbD 3 ∧ t.fd = v.getLsbD 2 ∧ t.fz = v.getLsbD 1 ∧ t.fc = v.getLsbD 0 ∧ t.sp = s.sp + 1 ∧
      (¬ (s.fi = false ∧ v.getLsbD 3 = true) → t.idelay = false) ∧ t.psetf = false ∧ t.pc12 = s.pc12 + 1 ∧
      Frame [.fi, .fd, .fz, .fc, .sp, .draws] [] [.read (stackAddr s.sp) v] s t

/-- For every operand that can be read, LD SPH,r and LD SPL,r complete: the named half of SP takes what the operand
held, the other half and every other register, every flag and every RAM word are unchanged. Words 1111 1110 00rr and
1111 1111 00rr, 5 clocks each. (45_stack.md R233, 45_stack.md R234) -/
def Obligations.LoadHalfOfSPFromOperand : Prop :=
  ∀ (r : Reg) (s : State), s.CanReadOperand r →
    (HasWord (.ldSPHR r) (0b1111111000#10 ++ Reg.code r) 5 ∧
      ∃ t, exec (.ldSPHR r) s = .next t ∧
        t.sp.extractLsb' 4 4 = s.operand r ∧ t.sp.extractLsb' 0 4 = s.sp.extractLsb' 0 4 ∧ Advanced s t ∧
        Frame [.sp] [] (s.reads r (s.operand r)) s t) ∧
    (HasWord (.ldSPLR r) (0b1111111100#10 ++ Reg.code r) 5 ∧
      ∃ t, exec (.ldSPLR r) s = .next t ∧
        t.sp.extractLsb' 0 4 = s.operand r ∧ t.sp.extractLsb' 4 4 = s.sp.extractLsb' 4 4 ∧ Advanced s t ∧
        Frame [.sp] [] (s.reads r (s.operand r)) s t)

/-- For every operand that can be written, LD r,SPH and LD r,SPL complete: the operand takes the high or the low four
bits of SP; SP, every other register, every flag and every other RAM word are unchanged. Words 1111 1110 01rr and
1111 1111 01rr, 5 clocks each. (45_stack.md R235, 45_stack.md R236) -/
def Obligations.LoadOperandFromHalfOfSP : Prop :=
  ∀ (r : Reg) (s : State), s.CanWriteOperand r →
    (HasWord (.ldRSPH r) (0b1111111001#10 ++ Reg.code r) 5 ∧
      ∃ t, exec (.ldRSPH r) s = .next t ∧ s.OperandTook t r (s.sp.extractLsb' 4 4) ∧ Advanced s t ∧
        Frame (destPieces r) (s.operandAddrs r) (s.writes r (s.sp.extractLsb' 4 4)) s t) ∧
    (HasWord (.ldRSPL r) (0b1111111101#10 ++ Reg.code r) 5 ∧
      ∃ t, exec (.ldRSPL r) s = .next t ∧ s.OperandTook t r (s.sp.extractLsb' 0 4) ∧ Advanced s t ∧
        Frame (destPieces r) (s.operandAddrs r) (s.writes r (s.sp.extractLsb' 0 4)) s t)

/-- For every pair of operands, both readable and r writable, ADD r,q, ADC r,q, SUB r,q and SBC r,q complete: r takes
the output of ADD4 or SUB4 of r and q (with C in for ADC and SBC, 0 for ADD and SUB, decimal when D = 1), C is its
carry or borrow and Z its zero flag; every other register, D, I and every other RAM word are unchanged (but the two
ALU latches); r is read, then q, then r written. Words 1010 1000 rrqq to 1010 1011 rrqq, 7 clocks each. That the
record of peripheral accesses has the read of r before the read of q, and each once even where they name one word,
is the spec's decision D18 (log entry 12); R75 leaves it open (ACCESS_ORDER, U7). (46_arithmetic.md R251,
46_arithmetic.md R253, 46_arithmetic.md R254, 46_arithmetic.md R256, 92_eei_decisions.md D18) -/
def Obligations.AddAndSubtractRegister : Prop :=
  ∀ (r q : Reg) (s : State), s.CanReadOperand r → s.CanReadOperand q → s.CanWriteOperand r →
    let x := s.operand r
    let y := (s.afterOperand r).operand q
    (HasWord (.addRQ r q) (0b10101000#8 ++ Reg.code r ++ Reg.code q) 7 ∧
      ∃ t, exec (.addRQ r q) s = .next t ∧ s.OperandTook t r (add4 x y false s.fd).out ∧ t.fc = (add4 x y false s.fd).c ∧ t.fz = (add4 x y false s.fd).z ∧
        Advanced s t ∧ Frame (.fc :: .fz :: .tempA :: .tempB :: destPieces r) (s.operandAddrs r)
          (s.reads r x ++ (s.afterOperand r).reads q y ++ s.writes r (add4 x y false s.fd).out) s t) ∧
    (HasWord (.adcRQ r q) (0b10101001#8 ++ Reg.code r ++ Reg.code q) 7 ∧
      ∃ t, exec (.adcRQ r q) s = .next t ∧ s.OperandTook t r (add4 x y s.fc s.fd).out ∧ t.fc = (add4 x y s.fc s.fd).c ∧ t.fz = (add4 x y s.fc s.fd).z ∧
        Advanced s t ∧ Frame (.fc :: .fz :: .tempA :: .tempB :: destPieces r) (s.operandAddrs r)
          (s.reads r x ++ (s.afterOperand r).reads q y ++ s.writes r (add4 x y s.fc s.fd).out) s t) ∧
    (HasWord (.subRQ r q) (0b10101010#8 ++ Reg.code r ++ Reg.code q) 7 ∧
      ∃ t, exec (.subRQ r q) s = .next t ∧ s.OperandTook t r (sub4 x y false s.fd).out ∧ t.fc = (sub4 x y false s.fd).c ∧ t.fz = (sub4 x y false s.fd).z ∧
        Advanced s t ∧ Frame (.fc :: .fz :: .tempA :: .tempB :: destPieces r) (s.operandAddrs r)
          (s.reads r x ++ (s.afterOperand r).reads q y ++ s.writes r (sub4 x y false s.fd).out) s t) ∧
    (HasWord (.sbcRQ r q) (0b10101011#8 ++ Reg.code r ++ Reg.code q) 7 ∧
      ∃ t, exec (.sbcRQ r q) s = .next t ∧ s.OperandTook t r (sub4 x y s.fc s.fd).out ∧ t.fc = (sub4 x y s.fc s.fd).c ∧ t.fz = (sub4 x y s.fc s.fd).z ∧
        Advanced s t ∧ Frame (.fc :: .fz :: .tempA :: .tempB :: destPieces r) (s.operandAddrs r)
          (s.reads r x ++ (s.afterOperand r).reads q y ++ s.writes r (sub4 x y s.fc s.fd).out) s t)

/-- For every operand that can be read and written and every i, ADD r,i, ADC r,i and SBC r,i complete: r takes the
output of ADD4 or SUB4 of r and i (with C in for ADC and SBC, 0 for ADD, decimal when D = 1), C is its carry or
borrow and Z its zero flag; every other register, D, I and every other RAM word are unchanged (but the two ALU
latches). Words 1100 00rr iiii, 1100 01rr iiii, 1101 01rr iiii, 7 clocks each. (46_arithmetic.md R250,
46_arithmetic.md R252, 46_arithmetic.md R255) -/
def Obligations.AddAndSubtractImmediate : Prop :=
  ∀ (r : Reg) (i : Nibble) (s : State), s.CanReadOperand r → s.CanWriteOperand r →
    let x := s.operand r
    (HasWord (.addRI r i) (0b110000#6 ++ Reg.code r ++ i) 7 ∧
      ∃ t, exec (.addRI r i) s = .next t ∧ s.OperandTook t r (add4 x i false s.fd).out ∧ t.fc = (add4 x i false s.fd).c ∧ t.fz = (add4 x i false s.fd).z ∧
        Advanced s t ∧ Frame (.fc :: .fz :: .tempA :: .tempB :: destPieces r) (s.operandAddrs r)
          (s.reads r x ++ s.writes r (add4 x i false s.fd).out) s t) ∧
    (HasWord (.adcRI r i) (0b110001#6 ++ Reg.code r ++ i) 7 ∧
      ∃ t, exec (.adcRI r i) s = .next t ∧ s.OperandTook t r (add4 x i s.fc s.fd).out ∧ t.fc = (add4 x i s.fc s.fd).c ∧ t.fz = (add4 x i s.fc s.fd).z ∧
        Advanced s t ∧ Frame (.fc :: .fz :: .tempA :: .tempB :: destPieces r) (s.operandAddrs r)
          (s.reads r x ++ s.writes r (add4 x i s.fc s.fd).out) s t) ∧
    (HasWord (.sbcRI r i) (0b110101#6 ++ Reg.code r ++ i) 7 ∧
      ∃ t, exec (.sbcRI r i) s = .next t ∧ s.OperandTook t r (sub4 x i s.fc s.fd).out ∧ t.fc = (sub4 x i s.fc s.fd).c ∧ t.fz = (sub4 x i s.fc s.fd).z ∧
        Advanced s t ∧ Frame (.fc :: .fz :: .tempA :: .tempB :: destPieces r) (s.operandAddrs r)
          (s.reads r x ++ s.writes r (sub4 x i s.fc s.fd).out) s t)

/-- For every pair of operands, both readable and r writable, AND r,q, OR r,q and XOR r,q complete: r takes the bitwise
result, Z is 1 exactly when it is 0000; C, D, I, every other register and every other RAM word are unchanged (but
the two ALU latches). Words 1010 1100 rrqq, 1010 1101 rrqq, 1010 1110 rrqq, 7 clocks each. That the record of
peripheral accesses has the read of r before the read of q, and each once even where they name one word, is the
spec's decision D18 (log entry 12); R75 leaves it open (ACCESS_ORDER, U7). (46_arithmetic.md R258, 46_arithmetic.md
R260, 46_arithmetic.md R262, 92_eei_decisions.md D18) -/
def Obligations.LogicRegister : Prop :=
  ∀ (r q : Reg) (s : State), s.CanReadOperand r → s.CanReadOperand q → s.CanWriteOperand r →
    let x := s.operand r
    let y := (s.afterOperand r).operand q
    (HasWord (.andRQ r q) (0b10101100#8 ++ Reg.code r ++ Reg.code q) 7 ∧
      ∃ t, exec (.andRQ r q) s = .next t ∧ s.OperandTook t r (x &&& y) ∧ t.fz = decide (x &&& y = 0#4) ∧
        Advanced s t ∧ Frame (.fz :: .tempA :: .tempB :: destPieces r) (s.operandAddrs r)
          (s.reads r x ++ (s.afterOperand r).reads q y ++ s.writes r (x &&& y)) s t) ∧
    (HasWord (.orRQ r q) (0b10101101#8 ++ Reg.code r ++ Reg.code q) 7 ∧
      ∃ t, exec (.orRQ r q) s = .next t ∧ s.OperandTook t r (x ||| y) ∧ t.fz = decide (x ||| y = 0#4) ∧
        Advanced s t ∧ Frame (.fz :: .tempA :: .tempB :: destPieces r) (s.operandAddrs r)
          (s.reads r x ++ (s.afterOperand r).reads q y ++ s.writes r (x ||| y)) s t) ∧
    (HasWord (.xorRQ r q) (0b10101110#8 ++ Reg.code r ++ Reg.code q) 7 ∧
      ∃ t, exec (.xorRQ r q) s = .next t ∧ s.OperandTook t r (x ^^^ y) ∧ t.fz = decide (x ^^^ y = 0#4) ∧
        Advanced s t ∧ Frame (.fz :: .tempA :: .tempB :: destPieces r) (s.operandAddrs r)
          (s.reads r x ++ (s.afterOperand r).reads q y ++ s.writes r (x ^^^ y)) s t)

/-- For every operand that can be read and written and every i, AND r,i, OR r,i, XOR r,i and NOT r complete: r takes the
bitwise result (NOT: the one's complement), Z is 1 exactly when it is 0000; C, D, I, every other register and every
other RAM word are unchanged (but the two ALU latches). Words 1100 10rr iiii, 1100 11rr iiii, 1101 00rr iiii, 1101
00rr 1111, 7 clocks each. (46_arithmetic.md R257, 46_arithmetic.md R259, 46_arithmetic.md R261, 46_arithmetic.md
R287) -/
def Obligations.LogicImmediate : Prop :=
  ∀ (r : Reg) (i : Nibble) (s : State), s.CanReadOperand r → s.CanWriteOperand r →
    let x := s.operand r
    (HasWord (.andRI r i) (0b110010#6 ++ Reg.code r ++ i) 7 ∧
      ∃ t, exec (.andRI r i) s = .next t ∧ s.OperandTook t r (x &&& i) ∧ t.fz = decide (x &&& i = 0#4) ∧
        Advanced s t ∧ Frame (.fz :: .tempA :: .tempB :: destPieces r) (s.operandAddrs r)
          (s.reads r x ++ s.writes r (x &&& i)) s t) ∧
    (HasWord (.orRI r i) (0b110011#6 ++ Reg.code r ++ i) 7 ∧
      ∃ t, exec (.orRI r i) s = .next t ∧ s.OperandTook t r (x ||| i) ∧ t.fz = decide (x ||| i = 0#4) ∧
        Advanced s t ∧ Frame (.fz :: .tempA :: .tempB :: destPieces r) (s.operandAddrs r)
          (s.reads r x ++ s.writes r (x ||| i)) s t) ∧
    (HasWord (.xorRI r i) (0b110100#6 ++ Reg.code r ++ i) 7 ∧
      ∃ t, exec (.xorRI r i) s = .next t ∧ s.OperandTook t r (x ^^^ i) ∧ t.fz = decide (x ^^^ i = 0#4) ∧
        Advanced s t ∧ Frame (.fz :: .tempA :: .tempB :: destPieces r) (s.operandAddrs r)
          (s.reads r x ++ s.writes r (x ^^^ i)) s t) ∧
    (HasWord (.notR r) (0b110100#6 ++ Reg.code r ++ 0b1111#4) 7 ∧
      ∃ t, exec (.notR r) s = .next t ∧ s.OperandTook t r (~~~x) ∧ t.fz = decide (~~~x = 0#4) ∧
        Advanced s t ∧ Frame (.fz :: .tempA :: .tempB :: destPieces r) (s.operandAddrs r)
          (s.reads r x ++ s.writes r (~~~x)) s t)

/-- For every operand or pair of operands that can be read and every i, CP r,i and CP r,q complete: C is 1 exactly when
r is below i or q as unsigned numbers, Z is 1 exactly when they are equal, whatever C and D held; every register, D,
I and every RAM word are unchanged (but the two ALU latches) and no memory operand is written. Words 1101 11rr iiii
and 1111 0000 rrqq, 7 clocks each. That the record of peripheral accesses has the read of r before the read of q,
and each once even where they name one word, is the spec's decision D18 (log entry 12); R75 leaves it open
(ACCESS_ORDER, U7). (46_arithmetic.md R263, 46_arithmetic.md R264, 92_eei_decisions.md D18) -/
def Obligations.CompareOperand : Prop :=
  ∀ (r q : Reg) (i : Nibble) (s : State), s.CanReadOperand r →
    let x := s.operand r
    let y := (s.afterOperand r).operand q
    (HasWord (.cpRI r i) (0b110111#6 ++ Reg.code r ++ i) 7 ∧
      ∃ t, exec (.cpRI r i) s = .next t ∧ t.fc = decide (x.toNat < i.toNat) ∧ t.fz = decide (x = i) ∧
        Advanced s t ∧ Frame [.fc, .fz, .tempA, .tempB] [] (s.reads r x) s t) ∧
    (s.CanReadOperand q → HasWord (.cpRQ r q) (0b11110000#8 ++ Reg.code r ++ Reg.code q) 7 ∧
      ∃ t, exec (.cpRQ r q) s = .next t ∧ t.fc = decide (x.toNat < y.toNat) ∧ t.fz = decide (x = y) ∧
        Advanced s t ∧ Frame [.fc, .fz, .tempA, .tempB] [] (s.reads r x ++ (s.afterOperand r).reads q y) s t)

/-- For every operand or pair of operands that can be read and every i, FAN r,i and FAN r,q complete: Z is 1 exactly
when the bitwise AND is 0000; C, D, I, every register and every RAM word are unchanged (but the two ALU latches).
Words 1101 10rr iiii and 1111 0001 rrqq, 7 clocks each. That the record of peripheral accesses has the read of r
before the read of q, and each once even where they name one word, is the spec's decision D18 (log entry 12); R75
leaves it open (ACCESS_ORDER, U7). (46_arithmetic.md R265, 46_arithmetic.md R266, 92_eei_decisions.md D18) -/
def Obligations.TestOperandBits : Prop :=
  ∀ (r q : Reg) (i : Nibble) (s : State), s.CanReadOperand r →
    let x := s.operand r
    let y := (s.afterOperand r).operand q
    (HasWord (.fanRI r i) (0b110110#6 ++ Reg.code r ++ i) 7 ∧
      ∃ t, exec (.fanRI r i) s = .next t ∧ t.fz = decide (x &&& i = 0#4) ∧
        Advanced s t ∧ Frame [.fz, .tempA, .tempB] [] (s.reads r x) s t) ∧
    (s.CanReadOperand q → HasWord (.fanRQ r q) (0b11110001#8 ++ Reg.code r ++ Reg.code q) 7 ∧
      ∃ t, exec (.fanRQ r q) s = .next t ∧ t.fz = decide (x &&& y = 0#4) ∧
        Advanced s t ∧ Frame [.fz, .tempA, .tempB] [] (s.reads r x ++ (s.afterOperand r).reads q y) s t)

/-- For every operand that can be read and written, RLC r and RRC r complete: the operand is shifted one bit left
(right), the old C comes in at bit 0 (bit 3), and the bit shifted out is the new C; Z, D, I, every other register
and every other RAM word are unchanged (but, for RLC, an ALU latch). Words 1010 1111 rrrr with the operand code
twice, 7 clocks, and 1110 1000 11rr, 5 clocks. (46_arithmetic.md R267, 46_arithmetic.md R268) -/
def Obligations.RotateThroughCarry : Prop :=
  ∀ (r : Reg) (s : State), s.CanReadOperand r → s.CanWriteOperand r →
    let x := s.operand r
    let carry : Nibble := if s.fc = true then 1 else 0
    (HasWord (.rlcR r) (0b10101111#8 ++ Reg.code r ++ Reg.code r) 7 ∧
      ∃ t, exec (.rlcR r) s = .next t ∧ s.OperandTook t r (x <<< 1 ||| carry) ∧ t.fc = x.getLsbD 3 ∧
        Advanced s t ∧ Frame (.fc :: .tempA :: destPieces r) (s.operandAddrs r) (s.reads r x ++ s.writes r (x <<< 1 ||| carry)) s t) ∧
    (HasWord (.rrcR r) (0b1110100011#10 ++ Reg.code r) 5 ∧
      ∃ t, exec (.rrcR r) s = .next t ∧ s.OperandTook t r (x >>> 1 ||| carry <<< 3) ∧ t.fc = x.getLsbD 0 ∧
        Advanced s t ∧ Frame (.fc :: destPieces r) (s.operandAddrs r) (s.reads r x ++ s.writes r (x >>> 1 ||| carry <<< 3)) s t)

/-- For every n, in every state in which the word at 00nH can be read and written, INC Mn and DEC Mn complete: the word
is one higher or lower modulo 16, never decimal-corrected, C is the carry or borrow and Z is 1 exactly when the
result is 0000; every register, D, I and every other RAM word are unchanged (but RP and the two ALU latches, which
no instruction reads). Words 1111 0110 nnnn and 1111 0111 nnnn, 7 clocks each. (46_arithmetic.md R269,
46_arithmetic.md R270) -/
def Obligations.IncrementAndDecrementDirect : Prop :=
  ∀ (n : Nibble) (s : State), s.CanRead (directAddr n) → s.CanWrite (directAddr n) →
    let m := directAddr n
    let x := s.readValue m
    (HasWord (.incMn n) (0b11110110#8 ++ n) 7 ∧
      ∃ t, exec (.incMn n) s = .next t ∧ (kindAt s.device m = .ram → t.ramWord m = (add4 x 1 false false).out) ∧
        t.fc = (add4 x 1 false false).c ∧ t.fz = (add4 x 1 false false).z ∧ Advanced s t ∧
        Frame [.fc, .fz, .rp, .tempA, .tempB] [m] [.read m x, .write m (add4 x 1 false false).out] s t) ∧
    (HasWord (.decMn n) (0b11110111#8 ++ n) 7 ∧
      ∃ t, exec (.decMn n) s = .next t ∧ (kindAt s.device m = .ram → t.ramWord m = (sub4 x 1 false false).out) ∧
        t.fc = (sub4 x 1 false false).c ∧ t.fz = (sub4 x 1 false false).z ∧ Advanced s t ∧
        Frame [.fc, .fz, .rp, .tempA, .tempB] [m] [.read m x, .write m (sub4 x 1 false false).out] s t)

/-- For every operand that can be read, in every state in which the word at IX (IY) can be read and written, ACPX MX,r,
SCPX MX,r (ACPY MY,r, SCPY MY,r) complete: the word at the old IX (IY) takes the output of ADD4 or SUB4 of itself,
r, C and D, C and Z are those of that result alone, and X (Y) is one higher modulo 256; XP, YP, every other
register, D, I and every other RAM word are unchanged (but the two ALU latches). Words 1111 0010 10rr, 1111 0010
11rr, 1111 0011 10rr, 1111 0011 11rr, 7 clocks each. That the record of peripheral accesses has the read of the word
at IX (IY) before the read of r, and each once even where they name one word, is the spec's decision D18 (log entry
12); R75 leaves it open (ACCESS_ORDER, U7). (46_arithmetic.md R283, 46_arithmetic.md R284, 46_arithmetic.md R285,
46_arithmetic.md R286, 92_eei_decisions.md D18) -/
def Obligations.MemoryArithmeticAndIncrement : Prop :=
  ∀ (r : Reg) (s : State), s.CanReadOperand r →
    (s.CanRead s.ix → s.CanWrite s.ix →
      let x := s.readValue s.ix
      let y := (s.afterRead s.ix).operand r
      HasWord (.acpxMXR r) (0b1111001010#10 ++ Reg.code r) 7 ∧
      ∃ t, exec (.acpxMXR r) s = .next t ∧ (kindAt s.device s.ix = .ram → t.ramWord s.ix = (add4 x y s.fc s.fd).out) ∧
        t.fc = (add4 x y s.fc s.fd).c ∧ t.fz = (add4 x y s.fc s.fd).z ∧ t.xhl = s.xhl + 1 ∧ Advanced s t ∧
        Frame [.xh, .xl, .fc, .fz, .tempA, .tempB] [s.ix]
          (.read s.ix x :: ((s.afterRead s.ix).reads r y ++ [BusEvent.write s.ix (add4 x y s.fc s.fd).out])) s t) ∧
    (s.CanRead s.iy → s.CanWrite s.iy →
      let x := s.readValue s.iy
      let y := (s.afterRead s.iy).operand r
      HasWord (.acpyMYR r) (0b1111001011#10 ++ Reg.code r) 7 ∧
      ∃ t, exec (.acpyMYR r) s = .next t ∧ (kindAt s.device s.iy = .ram → t.ramWord s.iy = (add4 x y s.fc s.fd).out) ∧
        t.fc = (add4 x y s.fc s.fd).c ∧ t.fz = (add4 x y s.fc s.fd).z ∧ t.yhl = s.yhl + 1 ∧ Advanced s t ∧
        Frame [.yh, .yl, .fc, .fz, .tempA, .tempB] [s.iy]
          (.read s.iy x :: ((s.afterRead s.iy).reads r y ++ [BusEvent.write s.iy (add4 x y s.fc s.fd).out])) s t) ∧
    (s.CanRead s.ix → s.CanWrite s.ix →
      let x := s.readValue s.ix
      let y := (s.afterRead s.ix).operand r
      HasWord (.scpxMXR r) (0b1111001110#10 ++ Reg.code r) 7 ∧
      ∃ t, exec (.scpxMXR r) s = .next t ∧ (kindAt s.device s.ix = .ram → t.ramWord s.ix = (sub4 x y s.fc s.fd).out) ∧
        t.fc = (sub4 x y s.fc s.fd).c ∧ t.fz = (sub4 x y s.fc s.fd).z ∧ t.xhl = s.xhl + 1 ∧ Advanced s t ∧
        Frame [.xh, .xl, .fc, .fz, .tempA, .tempB] [s.ix]
          (.read s.ix x :: ((s.afterRead s.ix).reads r y ++ [BusEvent.write s.ix (sub4 x y s.fc s.fd).out])) s t) ∧
    (s.CanRead s.iy → s.CanWrite s.iy →
      let x := s.readValue s.iy
      let y := (s.afterRead s.iy).operand r
      HasWord (.scpyMYR r) (0b1111001111#10 ++ Reg.code r) 7 ∧
      ∃ t, exec (.scpyMYR r) s = .next t ∧ (kindAt s.device s.iy = .ram → t.ramWord s.iy = (sub4 x y s.fc s.fd).out) ∧
        t.fc = (sub4 x y s.fc s.fd).c ∧ t.fz = (sub4 x y s.fc s.fd).z ∧ t.yhl = s.yhl + 1 ∧ Advanced s t ∧
        Frame [.yh, .yl, .fc, .fz, .tempA, .tempB] [s.iy]
          (.read s.iy x :: ((s.afterRead s.iy).reads r y ++ [BusEvent.write s.iy (sub4 x y s.fc s.fd).out])) s t)

/-- For all 4-bit a and b, both carries in and both modes, ADD4 gives the Z, C and output that the addition half of
Table 2.3.1.1 lists for the sum a + b + cin, and SUB4 those of the subtraction half for the difference a - b - bin
(counted from -16). R245 and R246 are marked as derived from the table of R247. (46_arithmetic.md R245,
46_arithmetic.md R246, 46_arithmetic.md R247) -/
def Obligations.AdderAndSubtracterMatchTheTable : Prop :=
  ∀ (a b : Nibble) (cin dec : Bool),
    let sum := a.toNat + b.toNat + cin.toNat
    let below := a.toNat + 16 - b.toNat - cin.toNat
    (if dec = true then table247AddDec else table247AddHex)[sum]? =
      some ((add4 a b cin dec).z.toNat, (add4 a b cin dec).c.toNat, (add4 a b cin dec).out.toNat) ∧
    (if dec = true then table247SubDec else table247SubHex)[below]? =
      some ((sub4 a b cin dec).z.toNat, (sub4 a b cin dec).c.toNat, (sub4 a b cin dec).out.toNat)

/-- For every well-formed instruction (every mnemonic, every value of every operand field, an aliased word under the one
name the decoder gives it), decoding its word gives the instruction back: no bit of an encoding is dropped and no
two instructions share a word. That the one name of an aliased word is the alias is the model's choice (log entry
2). (30_encoding.md R100, 30_encoding.md R92) -/
def Obligations.DecodeOfEncode : Prop :=
  ∀ i : Instr, i.WellFormed → decode (encode i) = .ok i

/-- Nineteen words written out bit by bit from the spec's encodings, at least one of each family and four of the aliases
(EE0H INC X, F48H EI, F5EH RCF, D0FH NOT A), decode to the instruction each stands for. That these four words decode
to the alias is the model's choice (log entry 2): R99 says that a decoder sees only the general form, LDPX A,A, SET
F,8, RST F,0EH and XOR A,0FH. (30_encoding.md R100, 30_encoding.md R99) -/
def Obligations.WordsOfTheManualDecode : Prop :=
  decode 0xE53#12 = .ok (.pset 0x13#5) ∧ decode 0x008#12 = .ok (.jp 0x08#8) ∧
  decode 0xFE8#12 = .ok .jpba ∧ decode 0xFDF#12 = .ok .ret ∧ decode 0xFD9#12 = .ok .popYL ∧
  decode 0xFFB#12 = .ok .nop5 ∧ decode 0xB6F#12 = .ok (.ldXE 0x6F#8) ∧ decode 0xE86#12 = .ok (.ldXHR .mx) ∧
  decode 0xE06#12 = .ok (.ldRI .a 6#4) ∧ decode 0xEC7#12 = .ok (.ldRQ .b .my) ∧ decode 0xEE0#12 = .ok .incX ∧
  decode 0xF4D#12 = .ok (.setF 0xD#4) ∧ decode 0xF48#12 = .ok .ei ∧ decode 0xFC0#12 = .ok (.pushR .a) ∧
  decode 0xAF5#12 = .ok (.rlcR .b) ∧ decode 0xD0F#12 = .ok (.notR .a) ∧ decode 0xA83#12 = .ok (.addRQ .a .my) ∧
  decode 0xF28#12 = .ok (.acpxMXR .a) ∧ decode 0xF5E#12 = .ok .rcf

/-- For every 12-bit word, the decoder answers "undefined word" exactly for the 61 words listed as encoding no
instruction, and "RLC fields" exactly for the 12 words of the RLC pattern whose two operand copies differ.
(30_encoding.md R104, 30_encoding.md R105) -/
def Obligations.ExactlyTheUnassignedWordsAreRefused : Prop :=
  ∀ w : InstrWord,
    (decode w = .error .undefinedWord ↔
      (0xE9C ≤ w.toNat ∧ w.toNat ≤ 0xE9F) ∨ (0xEAC ≤ w.toNat ∧ w.toNat ≤ 0xEAF) ∨
      (0xEBC ≤ w.toNat ∧ w.toNat ≤ 0xEBF) ∨ (0xED0 ≤ w.toNat ∧ w.toNat ≤ 0xEDF) ∨
      (0xF20 ≤ w.toNat ∧ w.toNat ≤ 0xF27) ∨ (0xF30 ≤ w.toNat ∧ w.toNat ≤ 0xF37) ∨
      (0xFCC ≤ w.toNat ∧ w.toNat ≤ 0xFCF) ∨ (0xFDC ≤ w.toNat ∧ w.toNat ≤ 0xFDD) ∨
      (0xFE9 ≤ w.toNat ∧ w.toNat ≤ 0xFEF) ∨ w.toNat = 0xFFA ∨ (0xFFC ≤ w.toNat ∧ w.toNat ≤ 0xFFE)) ∧
    (decode w = .error .rlcFields ↔
      (0xAF1 ≤ w.toNat ∧ w.toNat ≤ 0xAF4) ∨ (0xAF6 ≤ w.toNat ∧ w.toNat ≤ 0xAF9) ∨
      (0xAFB ≤ w.toNat ∧ w.toNat ≤ 0xAFE))

/-- For every instruction and every state, the name the decoder gives its word (for the eleven aliased words the alias:
NOT r, INC X, INC Y, SCF, SZF, SDF, EI, RCF, RZF, RDF, DI) has the same word, the same clock count and the same
effect as the general form. The spec marks the sameness as its own check, rule by rule; that the decoder answers
with the alias's name is the model's (log entry 2). (30_encoding.md R99) -/
def Obligations.AliasesMeanTheirGeneralForms : Prop :=
  ∀ (i : Instr) (s : State),
    encode i.canonical = encode i ∧ i.canonical.clocks = i.clocks ∧ exec i.canonical s = exec i s

/-- In every running state, at a boundary with no reset and no accepted request, if the program word at PCB : PCP : PCS
decodes to an instruction the device has, the step is that instruction's execution on the state with that boundary's
input used up; the instruction itself moves the program counter and clears PSETF and IDELAY. That the device has a
word with two names exactly when it has the alias is the model's choice (log entry 18). (10_state.md R45,
20_memory.md R61, 30_encoding.md R106) -/
def Obligations.StepRunsTheDecodedInstruction : Prop :=
  ∀ (s : State) (w : InstrWord) (i : Instr),
    s.nextInput.reset = false → (s.nextInput.irq = none ∨ s.acceptsInterrupt = false) → s.runState = .run →
    s.rom.lookup s.pc.toNat = some w → decode w = .ok i → i.row ∉ s.device.lacking →
    step s = exec i s.atBoundary

/-- In every running state, at a boundary with no reset and no accepted request: no ROM word at the program counter
gives the fault romUnmapped; a word of R104 gives undefinedOpcode; an RLC word with unequal fields gives rlcFields;
an instruction outside the device's subset gives undefinedOpcode. That these fetches stop is the spec's treatment of
them (log entries 13 and 14); that a word with two names counts as its alias is the model's choice (log entry 18).
(20_memory.md R61, 30_encoding.md R104, 30_encoding.md R105, 30_encoding.md R106, 92_eei_decisions.md D2,
92_eei_decisions.md D20) -/
def Obligations.FetchStopsByName : Prop :=
  ∀ s : State,
    s.nextInput.reset = false → (s.nextInput.irq = none ∨ s.acceptsInterrupt = false) → s.runState = .run →
    (s.rom.lookup s.pc.toNat = none → step s = .fault (.romUnmapped s.pc)) ∧
    (∀ w, s.rom.lookup s.pc.toNat = some w → decode w = .error .undefinedWord →
      step s = .fault (.undefinedOpcode w)) ∧
    (∀ w, s.rom.lookup s.pc.toNat = some w → decode w = .error .rlcFields → step s = .fault (.rlcFields w)) ∧
    (∀ w i, s.rom.lookup s.pc.toNat = some w → decode w = .ok i → i.row ∈ s.device.lacking →
      step s = .fault (.undefinedOpcode w))

/-- Right after reset PCB = 0, PCP = 1, PCS = 00H, NPP = 1, I = 0, D = 0 on the E0C6200A, PSETF = 0, IDELAY = 0 and
RUNSTATE = RUN; the first instruction is fetched at program address 0100H. The values the table calls Undefined are
the model's (log entry 1) and are not stated here. The three hidden values are the spec's decision D12 (log entry
16). (10_state.md R34, 70_reset_and_hazards.md R340, 92_eei_decisions.md D12) -/
def Obligations.ResetStateIsTheTable : Prop :=
  State.reset.pcb = 0 ∧ State.reset.pcp = 1 ∧ State.reset.pcs = 0 ∧ State.reset.npp = 1 ∧
  State.reset.fi = false ∧ (State.reset.device.variant = .e0c6200A → State.reset.fd = false) ∧
  State.reset.psetf = false ∧ State.reset.idelay = false ∧ State.reset.runState = .run ∧
  State.reset.pc.toNat = 0x100

/-- In every state, running or stopped and whatever else is requested, a boundary with reset asserted completes with PCB
= 0, PCP = 1, PCS = 00H, NPP = 1, I = 0, D = 0 on the E0C6200A, PSETF = 0, IDELAY = 0 and RUNSTATE = RUN; every RAM
word is unspecified again (a fresh free value); the program is unchanged. The values the rule calls Undefined are
the model's (log entry 1) and are not stated here. That reset is sampled at a boundary and unwrites RAM, and the
three hidden values, are the spec's decisions D22 and D12 (log entries 4 and 16). (70_reset_and_hazards.md R340,
70_reset_and_hazards.md R341, 10_state.md R45, 92_eei_decisions.md D12, 92_eei_decisions.md D22) -/
def Obligations.ResetInputResetsInAnyState : Prop :=
  ∀ s : State, s.nextInput.reset = true →
    ∃ t, step s = .next t ∧
      t.pcb = 0 ∧ t.pcp = 1 ∧ t.pcs = 0 ∧ t.npp = 1 ∧ t.fi = false ∧
      (s.device.variant = .e0c6200A → t.fd = false) ∧ t.psetf = false ∧ t.idelay = false ∧ t.runState = .run ∧
      (∀ addr : DataAddr, t.ramWord addr = Config.ramAtReset (s.resets + 1) addr.toNat) ∧
      t.rom = s.rom ∧ t.device = s.device ∧ t.inputs = s.inputs.tail ∧ t.bus = s.bus

/-- In every state, running or stopped, with I = 1, IDELAY = 0, PSETF = 0 and the three words below SP writable, a
boundary that presents vector 1 to 15 (and no reset) completes: the return address PCP : PCS is pushed, SP is three
lower, I = 0, NPP = 1, PCP = 1, PCS is the vector number, RUNSTATE is RUN; PCB, NBP, A, B, IX, IY, C, Z, D and every
other RAM word are unchanged. That NBP stays is the spec's decision D7 (log entry 16). The order of the three stack
writes, which a peripheral could see (ACCESS_ORDER, U7), is the spec's decision D18 (log entry 12).
(60_exceptions.md R312, 60_exceptions.md R313, 92_eei_decisions.md D7, 92_eei_decisions.md D18) -/
def Obligations.AcceptedInterruptIsEntered : Prop :=
  ∀ (s : State) (v : Fin 15),
    s.nextInput.reset = false → s.nextInput.irq = some v →
    s.fi = true → s.idelay = false → s.psetf = false → s.CanPushReturn →
    ∃ t, step s = .next t ∧
      t.fi = false ∧ t.npp = 1 ∧ t.pcp = 1 ∧ t.pcs.toNat = v.val + 1 ∧ t.psetf = false ∧ t.idelay = false ∧
      t.runState = .run ∧ t.inputs = s.inputs.tail ∧
      PushedReturn s t s.pc12 [.sp, .fi, .npp, .runState, .inputs]

/-- In every state in which I is 0, or IDELAY is 1 (the instruction before was the EI or SET F that turned I on), or
PSETF is 1 (it was PSET), a boundary that presents a request does exactly what the same boundary without the request
does. That PSET withholds a request is the spec's decision D19 (log entry 16). (60_exceptions.md R311, 10_state.md
R41, 10_state.md R42, 92_eei_decisions.md D19) -/
def Obligations.InterruptIsWithheld : Prop :=
  ∀ (s : State) (v : Fin 15),
    s.nextInput.reset = false → s.nextInput.irq = some v →
    (s.fi = false ∨ s.idelay = true ∨ s.psetf = true) →
    step s = step { s with inputs := BoundaryInput.quiet :: s.inputs.tail }

/-- For every state, address and value: at an unmapped address a read and a write stop by name; at a RAM address a read
gives the RAM word with no side effect, and a write completes after which a read of the address gives the value
written and every other RAM word and every register are as before; at a peripheral address the access completes, is
recorded, and changes no register and no RAM word. The stop at an unmapped address is the spec's decision D15 (log
entry 14). (20_memory.md R64, 20_memory.md R80, 92_eei_decisions.md D15) -/
def Obligations.DataMemoryReadsAndWrites : Prop :=
  ∀ (s : State) (addr : DataAddr) (v : Nibble),
    (kindAt s.device addr = .unmapped →
      s.memRead addr = .error (.fault (.dmemUnmapped addr)) ∧
      s.memWrite addr v = .error (.fault (.dmemUnmapped addr))) ∧
    (kindAt s.device addr = .ram →
      s.memRead addr = .ok (s.ramWord addr, s) ∧
      ∃ t, s.memWrite addr v = .ok t ∧ t.memRead addr = .ok (v, t) ∧ Frame [] [addr] [] s t ∧
        t.pc = s.pc ∧ t.psetf = s.psetf ∧ t.idelay = s.idelay) ∧
    (kindAt s.device addr = .peripheral →
      (∃ x t, s.memRead addr = .ok (x, t) ∧ Frame [] [] [.read addr x] s t ∧
        t.pc = s.pc ∧ t.psetf = s.psetf ∧ t.idelay = s.idelay) ∧
      (∃ t, s.memWrite addr v = .ok t ∧ Frame [] [] [.write addr v] s t ∧
        t.pc = s.pc ∧ t.psetf = s.psetf ∧ t.idelay = s.idelay))

/-- For every state, address and value: writing an interrupt mask register, and reading an interrupt factor flag, is
refused exactly on the E0C6200 with I = 1 and completes, recorded as a peripheral access, on the E0C6200A or with I
= 0; the opposite accesses complete on both variants, recorded too; a completed access changes no register and no
RAM word. The refusal is the treatment of U13 (log entry 15); that an address is one or the other and not both is
the model's choice (log entry 19). (60_exceptions.md R325, 93_implementation_defined.md U13) -/
def Obligations.InterruptRegistersOfTheE0C6200 : Prop :=
  ∀ (s : State) (addr : DataAddr) (v : Nibble),
    (kindAt s.device addr = .interruptMask →
      (∃ x t, s.memRead addr = .ok (x, t) ∧ Frame [] [] [.read addr x] s t ∧
        t.pc = s.pc ∧ t.psetf = s.psetf ∧ t.idelay = s.idelay) ∧
      (s.memWrite addr v = .error (.refusal (.interruptRegisterAtEI addr)) ↔
        s.device.variant = .e0c6200 ∧ s.fi = true) ∧
      ((s.device.variant = .e0c6200A ∨ s.fi = false) →
        ∃ t, s.memWrite addr v = .ok t ∧ Frame [] [] [.write addr v] s t ∧
          t.pc = s.pc ∧ t.psetf = s.psetf ∧ t.idelay = s.idelay)) ∧
    (kindAt s.device addr = .interruptFactor →
      (∃ t, s.memWrite addr v = .ok t ∧ Frame [] [] [.write addr v] s t ∧
        t.pc = s.pc ∧ t.psetf = s.psetf ∧ t.idelay = s.idelay) ∧
      (s.memRead addr = .error (.refusal (.interruptRegisterAtEI addr)) ↔
        s.device.variant = .e0c6200 ∧ s.fi = true) ∧
      ((s.device.variant = .e0c6200A ∨ s.fi = false) →
        ∃ x t, s.memRead addr = .ok (x, t) ∧ Frame [] [] [.read addr x] s t ∧
          t.pc = s.pc ∧ t.psetf = s.psetf ∧ t.idelay = s.idelay))

/-- For every instruction with every operand and every state: where the device has RAM at every data address, the
instruction completes; on any device, if it faults then at a data address where nothing is, and if it is refused
then at an interrupt mask register or interrupt factor flag of an E0C6200 with I = 1. No instruction has another
stop: the core raises no synchronous exception. The stops are those of log entries 14 and 15. (60_exceptions.md
R300, 60_exceptions.md R325, 20_memory.md R64, 92_eei_decisions.md D1, 92_eei_decisions.md D15) -/
def Obligations.InstructionsStopOnlyAtDataAccesses : Prop :=
  ∀ (i : Instr) (s : State),
    (s.device.dmemMap = [] → ∃ t, exec i s = .next t) ∧
    (∀ f, exec i s = .fault f → ∃ addr, f = .dmemUnmapped addr ∧ kindAt s.device addr = .unmapped) ∧
    (∀ r, exec i s = .refused r → ∃ addr, r = .interruptRegisterAtEI addr ∧
      s.device.variant = .e0c6200 ∧ s.fi = true ∧
      (kindAt s.device addr = .interruptMask ∨ kindAt s.device addr = .interruptFactor))

/-- The state right after reset satisfies the invariant: canonical memories, only RAM addresses listed as RAM, IDELAY
only with I = 1, PSETF and IDELAY never both 1, both 0 in HALT and SLEEP. (10_state.md R34, 10_state.md R41,
10_state.md R42) -/
def Obligations.ResetStateIsInTheInvariant : Prop :=
  State.reset.Inv

/-- For every state that satisfies the invariant, running or stopped, with any device, program and inputs: if a step
answers a next state, that state satisfies it too. RAM and program memory keep their canonical form and their
address ranges, only addresses that are RAM are listed as RAM, IDELAY is 1 only while I is 1, PSETF and IDELAY are
never both 1, and in HALT and SLEEP both are 0. (20_memory.md R64, 20_memory.md R61, 10_state.md R41, 10_state.md
R42, 10_state.md R43) -/
def Obligations.EveryStepKeepsTheInvariant : Prop :=
  ∀ s t : State, s.Inv → step s = .next t → t.Inv

/-- For every state, if a step answers a next state then the program memory and the device parameters are what they were
and exactly one boundary input has been used up: no instruction, interrupt or reset writes program memory. That the
device is part of the state and inputs are used up one a boundary is the model's form (log entries 10 and 11).
(20_memory.md R82, 20_memory.md R60, 10_state.md R33) -/
def Obligations.ProgramAndDeviceNeverChange : Prop :=
  ∀ s t : State, step s = .next t → t.rom = s.rom ∧ t.device = s.device ∧ t.inputs = s.inputs.tail

/-- For every instruction and every state, if it completes with another bank than before then PSETF was 1, the bank and
page come from NBP and NPP, and the instruction is JP, JP C, JP NC, JP Z, JP NZ or JPBA. (40_branch.md R134,
10_state.md R41) -/
def Obligations.OnlyJumpsAfterPsetChangeTheBank : Prop :=
  ∀ (i : Instr) (s t : State), exec i s = .next t → t.pcb ≠ s.pcb →
    s.psetf = true ∧ t.pcb = s.nbp ∧ t.pcp = s.npp ∧
      ((∃ step, i = .jp step ∨ i = .jpC step ∨ i = .jpNC step ∨ i = .jpZ step ∨ i = .jpNZ step) ∨ i = .jpba)

/-- For every instruction and every state, if it completes then PSETF is 1 afterwards exactly when the instruction was
PSET: every other instruction, conditional jumps not taken and CALZ included, discards a PSET before it.
(10_state.md R41, 40_branch.md R133) -/
def Obligations.PsetfIsSetByPsetAlone : Prop :=
  ∀ (i : Instr) (s t : State), exec i s = .next t → (t.psetf = true ↔ ∃ p, i = .pset p)

/-- For every instruction and every state, if it completes: I changes only by SET F, EI, RST F, DI and POP F; D only by
SET F, SDF, RST F, RDF and POP F; IDELAY is 1 afterwards only after SET F, EI or POP F, and then I is 1; RUNSTATE
changes only by HALT and SLP. (10_state.md R30, 10_state.md R42, 10_state.md R43) -/
def Obligations.WhoWritesInterruptAndDecimalFlags : Prop :=
  ∀ (i : Instr) (s t : State), exec i s = .next t →
    (t.fi ≠ s.fi → (∃ k, i = .setF k ∨ i = .rstF k) ∨ i = .ei ∨ i = .di ∨ i = .popF) ∧
    (t.fd ≠ s.fd → (∃ k, i = .setF k ∨ i = .rstF k) ∨ i = .sdf ∨ i = .rdf ∨ i = .popF) ∧
    (t.idelay = true → t.fi = true ∧ ((∃ k, i = .setF k) ∨ i = .ei ∨ i = .popF)) ∧
    (t.runState ≠ s.runState → i = .halt ∨ i = .slp)
end

