-- ==== Sys2Proof/Laws/Memory.lean ====
section
/-!
SUPPORT. The laws of a memory: what a store does to every later look-up, and that it keeps the canonical form.
-/

namespace Sys2Proof

/-- A look-up at the address just stored gives the value stored. -/
@[simp] theorem Memory.lookup_store_same {w : Nat} (m : Memory w) (a : Nat) (v : BitVec w) :
    (m.store a v).lookup a = some v := by
  induction m with
  | nil => simp [Memory.store, Memory.lookup]
  | cons e rest ih =>
    obtain ⟨k, x⟩ := e
    simp only [Memory.store]
    split
    · simp [Memory.lookup]
    · split
      · simp [Memory.lookup]
      · rename_i h1 h2
        simp [Memory.lookup, ih, Ne.symm h2]

/-- A look-up at any other address gives what it gave before. -/
theorem Memory.lookup_store_ne {w : Nat} (m : Memory w) {a b : Nat} (v : BitVec w) (h : b ≠ a) :
    (m.store a v).lookup b = m.lookup b := by
  induction m with
  | nil => simp [Memory.store, Memory.lookup, h.symm]
  | cons e rest ih =>
    obtain ⟨k, x⟩ := e
    simp only [Memory.store]
    split
    · simp [Memory.lookup, h.symm]
    · split
      · rename_i h1 h2
        subst h2
        simp [Memory.lookup, h.symm]
      · simp [Memory.lookup, ih]

/-- Every look-up after a store. -/
theorem Memory.lookup_store {w : Nat} (m : Memory w) (a b : Nat) (v : BitVec w) :
    (m.store a v).lookup b = if b = a then some v else m.lookup b := by
  by_cases h : b = a
  · subst h; simp
  · simp [Memory.lookup_store_ne m v h, h]

/-- A store at an address of the range keeps the canonical form. -/
theorem Memory.wfFrom_store {w : Nat} (m : Memory w) (low limit a : Nat) (v : BitVec w) (hlow : low ≤ a)
    (hlim : a < limit) (hm : m.wfFrom low limit = true) : (m.store a v).wfFrom low limit = true := by
  induction m generalizing low with
  | nil => simp [Memory.store, Memory.wfFrom, hlow, hlim]
  | cons e rest ih =>
    obtain ⟨k, x⟩ := e
    simp only [Memory.wfFrom, Bool.and_eq_true, decide_eq_true_eq] at hm
    obtain ⟨⟨h1, h2⟩, h3⟩ := hm
    simp only [Memory.store]
    split
    · simp only [Memory.wfFrom, Bool.and_eq_true, decide_eq_true_eq]
      exact ⟨⟨hlow, hlim⟩, ⟨by omega, h2⟩, h3⟩
    · split
      · rename_i h4 h5
        subst h5
        simp only [Memory.wfFrom, Bool.and_eq_true, decide_eq_true_eq]
        exact ⟨⟨hlow, hlim⟩, h3⟩
      · simp only [Memory.wfFrom, Bool.and_eq_true, decide_eq_true_eq]
        exact ⟨⟨h1, h2⟩, ih (k + 1) (by omega) h3⟩

/-- A store at an address of the range keeps the canonical form. -/
theorem Memory.wf_store {w : Nat} (m : Memory w) {limit a : Nat} (v : BitVec w) (hlim : a < limit)
    (hm : m.wf limit = true) : (m.store a v).wf limit = true :=
  Memory.wfFrom_store m 0 limit a v (Nat.zero_le a) hlim hm

/-- The RAM and the program memory of the reset state have the canonical form. -/
theorem Machine.reset_memories_wf :
    Machine.State.reset.ram.wf 4096 = true ∧ Machine.State.reset.rom.wf 8192 = true := by decide

end Sys2Proof
end

