-- ==== Sys2Proof/Laws/State.lean ====
section
/-!
SUPPORT. What each named update of the state does to each field, and to each view made of several fields: one lemma
each, true by unfolding. Later proofs cite these and unfold no update.
-/

namespace Sys2Proof.Machine

variable (s : State)


/-! ### begun -/

@[simp] theorem State.begun_a : s.begun.a = s.a := rfl
@[simp] theorem State.begun_b : s.begun.b = s.b := rfl
@[simp] theorem State.begun_xp : s.begun.xp = s.xp := rfl
@[simp] theorem State.begun_xh : s.begun.xh = s.xh := rfl
@[simp] theorem State.begun_xl : s.begun.xl = s.xl := rfl
@[simp] theorem State.begun_yp : s.begun.yp = s.yp := rfl
@[simp] theorem State.begun_yh : s.begun.yh = s.yh := rfl
@[simp] theorem State.begun_yl : s.begun.yl = s.yl := rfl
@[simp] theorem State.begun_sp : s.begun.sp = s.sp := rfl
@[simp] theorem State.begun_pcb : s.begun.pcb = s.pcb := rfl
@[simp] theorem State.begun_pcp : s.begun.pcp = s.pcp := rfl
@[simp] theorem State.begun_pcs : s.begun.pcs = s.pcs := rfl
@[simp] theorem State.begun_nbp : s.begun.nbp = s.nbp := rfl
@[simp] theorem State.begun_npp : s.begun.npp = s.npp := rfl
@[simp] theorem State.begun_fi : s.begun.fi = s.fi := rfl
@[simp] theorem State.begun_fd : s.begun.fd = s.fd := rfl
@[simp] theorem State.begun_fz : s.begun.fz = s.fz := rfl
@[simp] theorem State.begun_fc : s.begun.fc = s.fc := rfl
@[simp] theorem State.begun_rp : s.begun.rp = s.rp := rfl
@[simp] theorem State.begun_tempA : s.begun.tempA = s.tempA := rfl
@[simp] theorem State.begun_tempB : s.begun.tempB = s.tempB := rfl
@[simp] theorem State.begun_ram : s.begun.ram = s.ram := rfl
@[simp] theorem State.begun_rom : s.begun.rom = s.rom := rfl
@[simp] theorem State.begun_psetf : s.begun.psetf = false := rfl
@[simp] theorem State.begun_idelay : s.begun.idelay = false := rfl
@[simp] theorem State.begun_runState : s.begun.runState = s.runState := rfl
@[simp] theorem State.begun_device : s.begun.device = s.device := rfl
@[simp] theorem State.begun_inputs : s.begun.inputs = s.inputs := rfl
@[simp] theorem State.begun_bus : s.begun.bus = s.bus := rfl
@[simp] theorem State.begun_draws : s.begun.draws = s.draws := rfl
@[simp] theorem State.begun_resets : s.begun.resets = s.resets := rfl
@[simp] theorem State.begun_pc12 : s.begun.pc12 = s.pc12 := rfl
@[simp] theorem State.begun_pc : s.begun.pc = s.pc := rfl
@[simp] theorem State.begun_xhl : s.begun.xhl = s.xhl := rfl
@[simp] theorem State.begun_yhl : s.begun.yhl = s.yhl := rfl
@[simp] theorem State.begun_ix : s.begun.ix = s.ix := rfl
@[simp] theorem State.begun_iy : s.begun.iy = s.iy := rfl
@[simp] theorem State.begun_ixNext : s.begun.ixNext = s.ixNext := rfl
@[simp] theorem State.begun_flags : s.begun.flags = s.flags := rfl
@[simp] theorem State.begun_ramWord (addr : DataAddr) : s.begun.ramWord addr = s.ramWord addr := rfl
@[simp] theorem State.begun_readStop (addr : DataAddr) : s.begun.readStop addr = s.readStop addr := rfl
@[simp] theorem State.begun_writeStop (addr : DataAddr) : s.begun.writeStop addr = s.writeStop addr := rfl
@[simp] theorem State.begun_readValue (addr : DataAddr) : s.begun.readValue addr = s.readValue addr := rfl

/-! ### setPC12 -/

@[simp] theorem State.setPC12_a (v : BitVec 12) : (s.setPC12 v).a = s.a := rfl
@[simp] theorem State.setPC12_b (v : BitVec 12) : (s.setPC12 v).b = s.b := rfl
@[simp] theorem State.setPC12_xp (v : BitVec 12) : (s.setPC12 v).xp = s.xp := rfl
@[simp] theorem State.setPC12_xh (v : BitVec 12) : (s.setPC12 v).xh = s.xh := rfl
@[simp] theorem State.setPC12_xl (v : BitVec 12) : (s.setPC12 v).xl = s.xl := rfl
@[simp] theorem State.setPC12_yp (v : BitVec 12) : (s.setPC12 v).yp = s.yp := rfl
@[simp] theorem State.setPC12_yh (v : BitVec 12) : (s.setPC12 v).yh = s.yh := rfl
@[simp] theorem State.setPC12_yl (v : BitVec 12) : (s.setPC12 v).yl = s.yl := rfl
@[simp] theorem State.setPC12_sp (v : BitVec 12) : (s.setPC12 v).sp = s.sp := rfl
@[simp] theorem State.setPC12_pcb (v : BitVec 12) : (s.setPC12 v).pcb = s.pcb := rfl
@[simp] theorem State.setPC12_pcp (v : BitVec 12) : (s.setPC12 v).pcp = v.extractLsb' 8 4 := rfl
@[simp] theorem State.setPC12_pcs (v : BitVec 12) : (s.setPC12 v).pcs = v.extractLsb' 0 8 := rfl
@[simp] theorem State.setPC12_nbp (v : BitVec 12) : (s.setPC12 v).nbp = s.nbp := rfl
@[simp] theorem State.setPC12_npp (v : BitVec 12) : (s.setPC12 v).npp = s.npp := rfl
@[simp] theorem State.setPC12_fi (v : BitVec 12) : (s.setPC12 v).fi = s.fi := rfl
@[simp] theorem State.setPC12_fd (v : BitVec 12) : (s.setPC12 v).fd = s.fd := rfl
@[simp] theorem State.setPC12_fz (v : BitVec 12) : (s.setPC12 v).fz = s.fz := rfl
@[simp] theorem State.setPC12_fc (v : BitVec 12) : (s.setPC12 v).fc = s.fc := rfl
@[simp] theorem State.setPC12_rp (v : BitVec 12) : (s.setPC12 v).rp = s.rp := rfl
@[simp] theorem State.setPC12_tempA (v : BitVec 12) : (s.setPC12 v).tempA = s.tempA := rfl
@[simp] theorem State.setPC12_tempB (v : BitVec 12) : (s.setPC12 v).tempB = s.tempB := rfl
@[simp] theorem State.setPC12_ram (v : BitVec 12) : (s.setPC12 v).ram = s.ram := rfl
@[simp] theorem State.setPC12_rom (v : BitVec 12) : (s.setPC12 v).rom = s.rom := rfl
@[simp] theorem State.setPC12_psetf (v : BitVec 12) : (s.setPC12 v).psetf = s.psetf := rfl
@[simp] theorem State.setPC12_idelay (v : BitVec 12) : (s.setPC12 v).idelay = s.idelay := rfl
@[simp] theorem State.setPC12_runState (v : BitVec 12) : (s.setPC12 v).runState = s.runState := rfl
@[simp] theorem State.setPC12_device (v : BitVec 12) : (s.setPC12 v).device = s.device := rfl
@[simp] theorem State.setPC12_inputs (v : BitVec 12) : (s.setPC12 v).inputs = s.inputs := rfl
@[simp] theorem State.setPC12_bus (v : BitVec 12) : (s.setPC12 v).bus = s.bus := rfl
@[simp] theorem State.setPC12_draws (v : BitVec 12) : (s.setPC12 v).draws = s.draws := rfl
@[simp] theorem State.setPC12_resets (v : BitVec 12) : (s.setPC12 v).resets = s.resets := rfl
@[simp] theorem State.setPC12_xhl (v : BitVec 12) : (s.setPC12 v).xhl = s.xhl := rfl
@[simp] theorem State.setPC12_yhl (v : BitVec 12) : (s.setPC12 v).yhl = s.yhl := rfl
@[simp] theorem State.setPC12_ix (v : BitVec 12) : (s.setPC12 v).ix = s.ix := rfl
@[simp] theorem State.setPC12_iy (v : BitVec 12) : (s.setPC12 v).iy = s.iy := rfl
@[simp] theorem State.setPC12_ixNext (v : BitVec 12) : (s.setPC12 v).ixNext = s.ixNext := rfl
@[simp] theorem State.setPC12_flags (v : BitVec 12) : (s.setPC12 v).flags = s.flags := rfl
@[simp] theorem State.setPC12_ramWord (v : BitVec 12) (addr : DataAddr) : (s.setPC12 v).ramWord addr = s.ramWord addr := rfl
@[simp] theorem State.setPC12_readStop (v : BitVec 12) (addr : DataAddr) : (s.setPC12 v).readStop addr = s.readStop addr := rfl
@[simp] theorem State.setPC12_writeStop (v : BitVec 12) (addr : DataAddr) : (s.setPC12 v).writeStop addr = s.writeStop addr := rfl
@[simp] theorem State.setPC12_readValue (v : BitVec 12) (addr : DataAddr) : (s.setPC12 v).readValue addr = s.readValue addr := rfl

/-! ### nextPC -/

@[simp] theorem State.nextPC_a : s.nextPC.a = s.a := rfl
@[simp] theorem State.nextPC_b : s.nextPC.b = s.b := rfl
@[simp] theorem State.nextPC_xp : s.nextPC.xp = s.xp := rfl
@[simp] theorem State.nextPC_xh : s.nextPC.xh = s.xh := rfl
@[simp] theorem State.nextPC_xl : s.nextPC.xl = s.xl := rfl
@[simp] theorem State.nextPC_yp : s.nextPC.yp = s.yp := rfl
@[simp] theorem State.nextPC_yh : s.nextPC.yh = s.yh := rfl
@[simp] theorem State.nextPC_yl : s.nextPC.yl = s.yl := rfl
@[simp] theorem State.nextPC_sp : s.nextPC.sp = s.sp := rfl
@[simp] theorem State.nextPC_pcb : s.nextPC.pcb = s.pcb := rfl
@[simp] theorem State.nextPC_pcp : s.nextPC.pcp = (s.pc12 + 1).extractLsb' 8 4 := rfl
@[simp] theorem State.nextPC_pcs : s.nextPC.pcs = (s.pc12 + 1).extractLsb' 0 8 := rfl
@[simp] theorem State.nextPC_nbp : s.nextPC.nbp = s.nbp := rfl
@[simp] theorem State.nextPC_npp : s.nextPC.npp = s.npp := rfl
@[simp] theorem State.nextPC_fi : s.nextPC.fi = s.fi := rfl
@[simp] theorem State.nextPC_fd : s.nextPC.fd = s.fd := rfl
@[simp] theorem State.nextPC_fz : s.nextPC.fz = s.fz := rfl
@[simp] theorem State.nextPC_fc : s.nextPC.fc = s.fc := rfl
@[simp] theorem State.nextPC_rp : s.nextPC.rp = s.rp := rfl
@[simp] theorem State.nextPC_tempA : s.nextPC.tempA = s.tempA := rfl
@[simp] theorem State.nextPC_tempB : s.nextPC.tempB = s.tempB := rfl
@[simp] theorem State.nextPC_ram : s.nextPC.ram = s.ram := rfl
@[simp] theorem State.nextPC_rom : s.nextPC.rom = s.rom := rfl
@[simp] theorem State.nextPC_psetf : s.nextPC.psetf = s.psetf := rfl
@[simp] theorem State.nextPC_idelay : s.nextPC.idelay = s.idelay := rfl
@[simp] theorem State.nextPC_runState : s.nextPC.runState = s.runState := rfl
@[simp] theorem State.nextPC_device : s.nextPC.device = s.device := rfl
@[simp] theorem State.nextPC_inputs : s.nextPC.inputs = s.inputs := rfl
@[simp] theorem State.nextPC_bus : s.nextPC.bus = s.bus := rfl
@[simp] theorem State.nextPC_draws : s.nextPC.draws = s.draws := rfl
@[simp] theorem State.nextPC_resets : s.nextPC.resets = s.resets := rfl
@[simp] theorem State.nextPC_xhl : s.nextPC.xhl = s.xhl := rfl
@[simp] theorem State.nextPC_yhl : s.nextPC.yhl = s.yhl := rfl
@[simp] theorem State.nextPC_ix : s.nextPC.ix = s.ix := rfl
@[simp] theorem State.nextPC_iy : s.nextPC.iy = s.iy := rfl
@[simp] theorem State.nextPC_ixNext : s.nextPC.ixNext = s.ixNext := rfl
@[simp] theorem State.nextPC_flags : s.nextPC.flags = s.flags := rfl
@[simp] theorem State.nextPC_ramWord (addr : DataAddr) : s.nextPC.ramWord addr = s.ramWord addr := rfl
@[simp] theorem State.nextPC_readStop (addr : DataAddr) : s.nextPC.readStop addr = s.readStop addr := rfl
@[simp] theorem State.nextPC_writeStop (addr : DataAddr) : s.nextPC.writeStop addr = s.writeStop addr := rfl
@[simp] theorem State.nextPC_readValue (addr : DataAddr) : s.nextPC.readValue addr = s.readValue addr := rfl

/-! ### setSP -/

@[simp] theorem State.setSP_a (v : BitVec 8) : (s.setSP v).a = s.a := rfl
@[simp] theorem State.setSP_b (v : BitVec 8) : (s.setSP v).b = s.b := rfl
@[simp] theorem State.setSP_xp (v : BitVec 8) : (s.setSP v).xp = s.xp := rfl
@[simp] theorem State.setSP_xh (v : BitVec 8) : (s.setSP v).xh = s.xh := rfl
@[simp] theorem State.setSP_xl (v : BitVec 8) : (s.setSP v).xl = s.xl := rfl
@[simp] theorem State.setSP_yp (v : BitVec 8) : (s.setSP v).yp = s.yp := rfl
@[simp] theorem State.setSP_yh (v : BitVec 8) : (s.setSP v).yh = s.yh := rfl
@[simp] theorem State.setSP_yl (v : BitVec 8) : (s.setSP v).yl = s.yl := rfl
@[simp] theorem State.setSP_sp (v : BitVec 8) : (s.setSP v).sp = v := rfl
@[simp] theorem State.setSP_pcb (v : BitVec 8) : (s.setSP v).pcb = s.pcb := rfl
@[simp] theorem State.setSP_pcp (v : BitVec 8) : (s.setSP v).pcp = s.pcp := rfl
@[simp] theorem State.setSP_pcs (v : BitVec 8) : (s.setSP v).pcs = s.pcs := rfl
@[simp] theorem State.setSP_nbp (v : BitVec 8) : (s.setSP v).nbp = s.nbp := rfl
@[simp] theorem State.setSP_npp (v : BitVec 8) : (s.setSP v).npp = s.npp := rfl
@[simp] theorem State.setSP_fi (v : BitVec 8) : (s.setSP v).fi = s.fi := rfl
@[simp] theorem State.setSP_fd (v : BitVec 8) : (s.setSP v).fd = s.fd := rfl
@[simp] theorem State.setSP_fz (v : BitVec 8) : (s.setSP v).fz = s.fz := rfl
@[simp] theorem State.setSP_fc (v : BitVec 8) : (s.setSP v).fc = s.fc := rfl
@[simp] theorem State.setSP_rp (v : BitVec 8) : (s.setSP v).rp = s.rp := rfl
@[simp] theorem State.setSP_tempA (v : BitVec 8) : (s.setSP v).tempA = s.tempA := rfl
@[simp] theorem State.setSP_tempB (v : BitVec 8) : (s.setSP v).tempB = s.tempB := rfl
@[simp] theorem State.setSP_ram (v : BitVec 8) : (s.setSP v).ram = s.ram := rfl
@[simp] theorem State.setSP_rom (v : BitVec 8) : (s.setSP v).rom = s.rom := rfl
@[simp] theorem State.setSP_psetf (v : BitVec 8) : (s.setSP v).psetf = s.psetf := rfl
@[simp] theorem State.setSP_idelay (v : BitVec 8) : (s.setSP v).idelay = s.idelay := rfl
@[simp] theorem State.setSP_runState (v : BitVec 8) : (s.setSP v).runState = s.runState := rfl
@[simp] theorem State.setSP_device (v : BitVec 8) : (s.setSP v).device = s.device := rfl
@[simp] theorem State.setSP_inputs (v : BitVec 8) : (s.setSP v).inputs = s.inputs := rfl
@[simp] theorem State.setSP_bus (v : BitVec 8) : (s.setSP v).bus = s.bus := rfl
@[simp] theorem State.setSP_draws (v : BitVec 8) : (s.setSP v).draws = s.draws := rfl
@[simp] theorem State.setSP_resets (v : BitVec 8) : (s.setSP v).resets = s.resets := rfl
@[simp] theorem State.setSP_pc12 (v : BitVec 8) : (s.setSP v).pc12 = s.pc12 := rfl
@[simp] theorem State.setSP_pc (v : BitVec 8) : (s.setSP v).pc = s.pc := rfl
@[simp] theorem State.setSP_xhl (v : BitVec 8) : (s.setSP v).xhl = s.xhl := rfl
@[simp] theorem State.setSP_yhl (v : BitVec 8) : (s.setSP v).yhl = s.yhl := rfl
@[simp] theorem State.setSP_ix (v : BitVec 8) : (s.setSP v).ix = s.ix := rfl
@[simp] theorem State.setSP_iy (v : BitVec 8) : (s.setSP v).iy = s.iy := rfl
@[simp] theorem State.setSP_ixNext (v : BitVec 8) : (s.setSP v).ixNext = s.ixNext := rfl
@[simp] theorem State.setSP_flags (v : BitVec 8) : (s.setSP v).flags = s.flags := rfl
@[simp] theorem State.setSP_ramWord (v : BitVec 8) (addr : DataAddr) : (s.setSP v).ramWord addr = s.ramWord addr := rfl
@[simp] theorem State.setSP_readStop (v : BitVec 8) (addr : DataAddr) : (s.setSP v).readStop addr = s.readStop addr := rfl
@[simp] theorem State.setSP_writeStop (v : BitVec 8) (addr : DataAddr) : (s.setSP v).writeStop addr = s.writeStop addr := rfl
@[simp] theorem State.setSP_readValue (v : BitVec 8) (addr : DataAddr) : (s.setSP v).readValue addr = s.readValue addr := rfl

/-! ### setXhl -/

@[simp] theorem State.setXhl_a (v : BitVec 8) : (s.setXhl v).a = s.a := rfl
@[simp] theorem State.setXhl_b (v : BitVec 8) : (s.setXhl v).b = s.b := rfl
@[simp] theorem State.setXhl_xp (v : BitVec 8) : (s.setXhl v).xp = s.xp := rfl
@[simp] theorem State.setXhl_xh (v : BitVec 8) : (s.setXhl v).xh = v.extractLsb' 4 4 := rfl
@[simp] theorem State.setXhl_xl (v : BitVec 8) : (s.setXhl v).xl = v.extractLsb' 0 4 := rfl
@[simp] theorem State.setXhl_yp (v : BitVec 8) : (s.setXhl v).yp = s.yp := rfl
@[simp] theorem State.setXhl_yh (v : BitVec 8) : (s.setXhl v).yh = s.yh := rfl
@[simp] theorem State.setXhl_yl (v : BitVec 8) : (s.setXhl v).yl = s.yl := rfl
@[simp] theorem State.setXhl_sp (v : BitVec 8) : (s.setXhl v).sp = s.sp := rfl
@[simp] theorem State.setXhl_pcb (v : BitVec 8) : (s.setXhl v).pcb = s.pcb := rfl
@[simp] theorem State.setXhl_pcp (v : BitVec 8) : (s.setXhl v).pcp = s.pcp := rfl
@[simp] theorem State.setXhl_pcs (v : BitVec 8) : (s.setXhl v).pcs = s.pcs := rfl
@[simp] theorem State.setXhl_nbp (v : BitVec 8) : (s.setXhl v).nbp = s.nbp := rfl
@[simp] theorem State.setXhl_npp (v : BitVec 8) : (s.setXhl v).npp = s.npp := rfl
@[simp] theorem State.setXhl_fi (v : BitVec 8) : (s.setXhl v).fi = s.fi := rfl
@[simp] theorem State.setXhl_fd (v : BitVec 8) : (s.setXhl v).fd = s.fd := rfl
@[simp] theorem State.setXhl_fz (v : BitVec 8) : (s.setXhl v).fz = s.fz := rfl
@[simp] theorem State.setXhl_fc (v : BitVec 8) : (s.setXhl v).fc = s.fc := rfl
@[simp] theorem State.setXhl_rp (v : BitVec 8) : (s.setXhl v).rp = s.rp := rfl
@[simp] theorem State.setXhl_tempA (v : BitVec 8) : (s.setXhl v).tempA = s.tempA := rfl
@[simp] theorem State.setXhl_tempB (v : BitVec 8) : (s.setXhl v).tempB = s.tempB := rfl
@[simp] theorem State.setXhl_ram (v : BitVec 8) : (s.setXhl v).ram = s.ram := rfl
@[simp] theorem State.setXhl_rom (v : BitVec 8) : (s.setXhl v).rom = s.rom := rfl
@[simp] theorem State.setXhl_psetf (v : BitVec 8) : (s.setXhl v).psetf = s.psetf := rfl
@[simp] theorem State.setXhl_idelay (v : BitVec 8) : (s.setXhl v).idelay = s.idelay := rfl
@[simp] theorem State.setXhl_runState (v : BitVec 8) : (s.setXhl v).runState = s.runState := rfl
@[simp] theorem State.setXhl_device (v : BitVec 8) : (s.setXhl v).device = s.device := rfl
@[simp] theorem State.setXhl_inputs (v : BitVec 8) : (s.setXhl v).inputs = s.inputs := rfl
@[simp] theorem State.setXhl_bus (v : BitVec 8) : (s.setXhl v).bus = s.bus := rfl
@[simp] theorem State.setXhl_draws (v : BitVec 8) : (s.setXhl v).draws = s.draws := rfl
@[simp] theorem State.setXhl_resets (v : BitVec 8) : (s.setXhl v).resets = s.resets := rfl
@[simp] theorem State.setXhl_pc12 (v : BitVec 8) : (s.setXhl v).pc12 = s.pc12 := rfl
@[simp] theorem State.setXhl_pc (v : BitVec 8) : (s.setXhl v).pc = s.pc := rfl
@[simp] theorem State.setXhl_yhl (v : BitVec 8) : (s.setXhl v).yhl = s.yhl := rfl
@[simp] theorem State.setXhl_iy (v : BitVec 8) : (s.setXhl v).iy = s.iy := rfl
@[simp] theorem State.setXhl_flags (v : BitVec 8) : (s.setXhl v).flags = s.flags := rfl
@[simp] theorem State.setXhl_ramWord (v : BitVec 8) (addr : DataAddr) : (s.setXhl v).ramWord addr = s.ramWord addr := rfl
@[simp] theorem State.setXhl_readStop (v : BitVec 8) (addr : DataAddr) : (s.setXhl v).readStop addr = s.readStop addr := rfl
@[simp] theorem State.setXhl_writeStop (v : BitVec 8) (addr : DataAddr) : (s.setXhl v).writeStop addr = s.writeStop addr := rfl
@[simp] theorem State.setXhl_readValue (v : BitVec 8) (addr : DataAddr) : (s.setXhl v).readValue addr = s.readValue addr := rfl

/-! ### setYhl -/

@[simp] theorem State.setYhl_a (v : BitVec 8) : (s.setYhl v).a = s.a := rfl
@[simp] theorem State.setYhl_b (v : BitVec 8) : (s.setYhl v).b = s.b := rfl
@[simp] theorem State.setYhl_xp (v : BitVec 8) : (s.setYhl v).xp = s.xp := rfl
@[simp] theorem State.setYhl_xh (v : BitVec 8) : (s.setYhl v).xh = s.xh := rfl
@[simp] theorem State.setYhl_xl (v : BitVec 8) : (s.setYhl v).xl = s.xl := rfl
@[simp] theorem State.setYhl_yp (v : BitVec 8) : (s.setYhl v).yp = s.yp := rfl
@[simp] theorem State.setYhl_yh (v : BitVec 8) : (s.setYhl v).yh = v.extractLsb' 4 4 := rfl
@[simp] theorem State.setYhl_yl (v : BitVec 8) : (s.setYhl v).yl = v.extractLsb' 0 4 := rfl
@[simp] theorem State.setYhl_sp (v : BitVec 8) : (s.setYhl v).sp = s.sp := rfl
@[simp] theorem State.setYhl_pcb (v : BitVec 8) : (s.setYhl v).pcb = s.pcb := rfl
@[simp] theorem State.setYhl_pcp (v : BitVec 8) : (s.setYhl v).pcp = s.pcp := rfl
@[simp] theorem State.setYhl_pcs (v : BitVec 8) : (s.setYhl v).pcs = s.pcs := rfl
@[simp] theorem State.setYhl_nbp (v : BitVec 8) : (s.setYhl v).nbp = s.nbp := rfl
@[simp] theorem State.setYhl_npp (v : BitVec 8) : (s.setYhl v).npp = s.npp := rfl
@[simp] theorem State.setYhl_fi (v : BitVec 8) : (s.setYhl v).fi = s.fi := rfl
@[simp] theorem State.setYhl_fd (v : BitVec 8) : (s.setYhl v).fd = s.fd := rfl
@[simp] theorem State.setYhl_fz (v : BitVec 8) : (s.setYhl v).fz = s.fz := rfl
@[simp] theorem State.setYhl_fc (v : BitVec 8) : (s.setYhl v).fc = s.fc := rfl
@[simp] theorem State.setYhl_rp (v : BitVec 8) : (s.setYhl v).rp = s.rp := rfl
@[simp] theorem State.setYhl_tempA (v : BitVec 8) : (s.setYhl v).tempA = s.tempA := rfl
@[simp] theorem State.setYhl_tempB (v : BitVec 8) : (s.setYhl v).tempB = s.tempB := rfl
@[simp] theorem State.setYhl_ram (v : BitVec 8) : (s.setYhl v).ram = s.ram := rfl
@[simp] theorem State.setYhl_rom (v : BitVec 8) : (s.setYhl v).rom = s.rom := rfl
@[simp] theorem State.setYhl_psetf (v : BitVec 8) : (s.setYhl v).psetf = s.psetf := rfl
@[simp] theorem State.setYhl_idelay (v : BitVec 8) : (s.setYhl v).idelay = s.idelay := rfl
@[simp] theorem State.setYhl_runState (v : BitVec 8) : (s.setYhl v).runState = s.runState := rfl
@[simp] theorem State.setYhl_device (v : BitVec 8) : (s.setYhl v).device = s.device := rfl
@[simp] theorem State.setYhl_inputs (v : BitVec 8) : (s.setYhl v).inputs = s.inputs := rfl
@[simp] theorem State.setYhl_bus (v : BitVec 8) : (s.setYhl v).bus = s.bus := rfl
@[simp] theorem State.setYhl_draws (v : BitVec 8) : (s.setYhl v).draws = s.draws := rfl
@[simp] theorem State.setYhl_resets (v : BitVec 8) : (s.setYhl v).resets = s.resets := rfl
@[simp] theorem State.setYhl_pc12 (v : BitVec 8) : (s.setYhl v).pc12 = s.pc12 := rfl
@[simp] theorem State.setYhl_pc (v : BitVec 8) : (s.setYhl v).pc = s.pc := rfl
@[simp] theorem State.setYhl_xhl (v : BitVec 8) : (s.setYhl v).xhl = s.xhl := rfl
@[simp] theorem State.setYhl_ix (v : BitVec 8) : (s.setYhl v).ix = s.ix := rfl
@[simp] theorem State.setYhl_ixNext (v : BitVec 8) : (s.setYhl v).ixNext = s.ixNext := rfl
@[simp] theorem State.setYhl_flags (v : BitVec 8) : (s.setYhl v).flags = s.flags := rfl
@[simp] theorem State.setYhl_ramWord (v : BitVec 8) (addr : DataAddr) : (s.setYhl v).ramWord addr = s.ramWord addr := rfl
@[simp] theorem State.setYhl_readStop (v : BitVec 8) (addr : DataAddr) : (s.setYhl v).readStop addr = s.readStop addr := rfl
@[simp] theorem State.setYhl_writeStop (v : BitVec 8) (addr : DataAddr) : (s.setYhl v).writeStop addr = s.writeStop addr := rfl
@[simp] theorem State.setYhl_readValue (v : BitVec 8) (addr : DataAddr) : (s.setYhl v).readValue addr = s.readValue addr := rfl

/-! ### bumpX -/

@[simp] theorem State.bumpX_a (k : BitVec 8) : (s.bumpX k).a = s.a := rfl
@[simp] theorem State.bumpX_b (k : BitVec 8) : (s.bumpX k).b = s.b := rfl
@[simp] theorem State.bumpX_xp (k : BitVec 8) : (s.bumpX k).xp = s.xp := rfl
@[simp] theorem State.bumpX_xh (k : BitVec 8) : (s.bumpX k).xh = (s.xhl + k).extractLsb' 4 4 := rfl
@[simp] theorem State.bumpX_xl (k : BitVec 8) : (s.bumpX k).xl = (s.xhl + k).extractLsb' 0 4 := rfl
@[simp] theorem State.bumpX_yp (k : BitVec 8) : (s.bumpX k).yp = s.yp := rfl
@[simp] theorem State.bumpX_yh (k : BitVec 8) : (s.bumpX k).yh = s.yh := rfl
@[simp] theorem State.bumpX_yl (k : BitVec 8) : (s.bumpX k).yl = s.yl := rfl
@[simp] theorem State.bumpX_sp (k : BitVec 8) : (s.bumpX k).sp = s.sp := rfl
@[simp] theorem State.bumpX_pcb (k : BitVec 8) : (s.bumpX k).pcb = s.pcb := rfl
@[simp] theorem State.bumpX_pcp (k : BitVec 8) : (s.bumpX k).pcp = s.pcp := rfl
@[simp] theorem State.bumpX_pcs (k : BitVec 8) : (s.bumpX k).pcs = s.pcs := rfl
@[simp] theorem State.bumpX_nbp (k : BitVec 8) : (s.bumpX k).nbp = s.nbp := rfl
@[simp] theorem State.bumpX_npp (k : BitVec 8) : (s.bumpX k).npp = s.npp := rfl
@[simp] theorem State.bumpX_fi (k : BitVec 8) : (s.bumpX k).fi = s.fi := rfl
@[simp] theorem State.bumpX_fd (k : BitVec 8) : (s.bumpX k).fd = s.fd := rfl
@[simp] theorem State.bumpX_fz (k : BitVec 8) : (s.bumpX k).fz = s.fz := rfl
@[simp] theorem State.bumpX_fc (k : BitVec 8) : (s.bumpX k).fc = s.fc := rfl
@[simp] theorem State.bumpX_rp (k : BitVec 8) : (s.bumpX k).rp = s.rp := rfl
@[simp] theorem State.bumpX_tempA (k : BitVec 8) : (s.bumpX k).tempA = s.tempA := rfl
@[simp] theorem State.bumpX_tempB (k : BitVec 8) : (s.bumpX k).tempB = s.tempB := rfl
@[simp] theorem State.bumpX_ram (k : BitVec 8) : (s.bumpX k).ram = s.ram := rfl
@[simp] theorem State.bumpX_rom (k : BitVec 8) : (s.bumpX k).rom = s.rom := rfl
@[simp] theorem State.bumpX_psetf (k : BitVec 8) : (s.bumpX k).psetf = s.psetf := rfl
@[simp] theorem State.bumpX_idelay (k : BitVec 8) : (s.bumpX k).idelay = s.idelay := rfl
@[simp] theorem State.bumpX_runState (k : BitVec 8) : (s.bumpX k).runState = s.runState := rfl
@[simp] theorem State.bumpX_device (k : BitVec 8) : (s.bumpX k).device = s.device := rfl
@[simp] theorem State.bumpX_inputs (k : BitVec 8) : (s.bumpX k).inputs = s.inputs := rfl
@[simp] theorem State.bumpX_bus (k : BitVec 8) : (s.bumpX k).bus = s.bus := rfl
@[simp] theorem State.bumpX_draws (k : BitVec 8) : (s.bumpX k).draws = s.draws := rfl
@[simp] theorem State.bumpX_resets (k : BitVec 8) : (s.bumpX k).resets = s.resets := rfl
@[simp] theorem State.bumpX_pc12 (k : BitVec 8) : (s.bumpX k).pc12 = s.pc12 := rfl
@[simp] theorem State.bumpX_pc (k : BitVec 8) : (s.bumpX k).pc = s.pc := rfl
@[simp] theorem State.bumpX_yhl (k : BitVec 8) : (s.bumpX k).yhl = s.yhl := rfl
@[simp] theorem State.bumpX_iy (k : BitVec 8) : (s.bumpX k).iy = s.iy := rfl
@[simp] theorem State.bumpX_flags (k : BitVec 8) : (s.bumpX k).flags = s.flags := rfl
@[simp] theorem State.bumpX_ramWord (k : BitVec 8) (addr : DataAddr) : (s.bumpX k).ramWord addr = s.ramWord addr := rfl
@[simp] theorem State.bumpX_readStop (k : BitVec 8) (addr : DataAddr) : (s.bumpX k).readStop addr = s.readStop addr := rfl
@[simp] theorem State.bumpX_writeStop (k : BitVec 8) (addr : DataAddr) : (s.bumpX k).writeStop addr = s.writeStop addr := rfl
@[simp] theorem State.bumpX_readValue (k : BitVec 8) (addr : DataAddr) : (s.bumpX k).readValue addr = s.readValue addr := rfl

/-! ### bumpY -/

@[simp] theorem State.bumpY_a : s.bumpY.a = s.a := rfl
@[simp] theorem State.bumpY_b : s.bumpY.b = s.b := rfl
@[simp] theorem State.bumpY_xp : s.bumpY.xp = s.xp := rfl
@[simp] theorem State.bumpY_xh : s.bumpY.xh = s.xh := rfl
@[simp] theorem State.bumpY_xl : s.bumpY.xl = s.xl := rfl
@[simp] theorem State.bumpY_yp : s.bumpY.yp = s.yp := rfl
@[simp] theorem State.bumpY_yh : s.bumpY.yh = (s.yhl + 1).extractLsb' 4 4 := rfl
@[simp] theorem State.bumpY_yl : s.bumpY.yl = (s.yhl + 1).extractLsb' 0 4 := rfl
@[simp] theorem State.bumpY_sp : s.bumpY.sp = s.sp := rfl
@[simp] theorem State.bumpY_pcb : s.bumpY.pcb = s.pcb := rfl
@[simp] theorem State.bumpY_pcp : s.bumpY.pcp = s.pcp := rfl
@[simp] theorem State.bumpY_pcs : s.bumpY.pcs = s.pcs := rfl
@[simp] theorem State.bumpY_nbp : s.bumpY.nbp = s.nbp := rfl
@[simp] theorem State.bumpY_npp : s.bumpY.npp = s.npp := rfl
@[simp] theorem State.bumpY_fi : s.bumpY.fi = s.fi := rfl
@[simp] theorem State.bumpY_fd : s.bumpY.fd = s.fd := rfl
@[simp] theorem State.bumpY_fz : s.bumpY.fz = s.fz := rfl
@[simp] theorem State.bumpY_fc : s.bumpY.fc = s.fc := rfl
@[simp] theorem State.bumpY_rp : s.bumpY.rp = s.rp := rfl
@[simp] theorem State.bumpY_tempA : s.bumpY.tempA = s.tempA := rfl
@[simp] theorem State.bumpY_tempB : s.bumpY.tempB = s.tempB := rfl
@[simp] theorem State.bumpY_ram : s.bumpY.ram = s.ram := rfl
@[simp] theorem State.bumpY_rom : s.bumpY.rom = s.rom := rfl
@[simp] theorem State.bumpY_psetf : s.bumpY.psetf = s.psetf := rfl
@[simp] theorem State.bumpY_idelay : s.bumpY.idelay = s.idelay := rfl
@[simp] theorem State.bumpY_runState : s.bumpY.runState = s.runState := rfl
@[simp] theorem State.bumpY_device : s.bumpY.device = s.device := rfl
@[simp] theorem State.bumpY_inputs : s.bumpY.inputs = s.inputs := rfl
@[simp] theorem State.bumpY_bus : s.bumpY.bus = s.bus := rfl
@[simp] theorem State.bumpY_draws : s.bumpY.draws = s.draws := rfl
@[simp] theorem State.bumpY_resets : s.bumpY.resets = s.resets := rfl
@[simp] theorem State.bumpY_pc12 : s.bumpY.pc12 = s.pc12 := rfl
@[simp] theorem State.bumpY_pc : s.bumpY.pc = s.pc := rfl
@[simp] theorem State.bumpY_xhl : s.bumpY.xhl = s.xhl := rfl
@[simp] theorem State.bumpY_ix : s.bumpY.ix = s.ix := rfl
@[simp] theorem State.bumpY_ixNext : s.bumpY.ixNext = s.ixNext := rfl
@[simp] theorem State.bumpY_flags : s.bumpY.flags = s.flags := rfl
@[simp] theorem State.bumpY_ramWord (addr : DataAddr) : s.bumpY.ramWord addr = s.ramWord addr := rfl
@[simp] theorem State.bumpY_readStop (addr : DataAddr) : s.bumpY.readStop addr = s.readStop addr := rfl
@[simp] theorem State.bumpY_writeStop (addr : DataAddr) : s.bumpY.writeStop addr = s.writeStop addr := rfl
@[simp] theorem State.bumpY_readValue (addr : DataAddr) : s.bumpY.readValue addr = s.readValue addr := rfl

/-! ### setFlags -/

@[simp] theorem State.setFlags_a (v : Nibble) : (s.setFlags v).a = s.a := rfl
@[simp] theorem State.setFlags_b (v : Nibble) : (s.setFlags v).b = s.b := rfl
@[simp] theorem State.setFlags_xp (v : Nibble) : (s.setFlags v).xp = s.xp := rfl
@[simp] theorem State.setFlags_xh (v : Nibble) : (s.setFlags v).xh = s.xh := rfl
@[simp] theorem State.setFlags_xl (v : Nibble) : (s.setFlags v).xl = s.xl := rfl
@[simp] theorem State.setFlags_yp (v : Nibble) : (s.setFlags v).yp = s.yp := rfl
@[simp] theorem State.setFlags_yh (v : Nibble) : (s.setFlags v).yh = s.yh := rfl
@[simp] theorem State.setFlags_yl (v : Nibble) : (s.setFlags v).yl = s.yl := rfl
@[simp] theorem State.setFlags_sp (v : Nibble) : (s.setFlags v).sp = s.sp := rfl
@[simp] theorem State.setFlags_pcb (v : Nibble) : (s.setFlags v).pcb = s.pcb := rfl
@[simp] theorem State.setFlags_pcp (v : Nibble) : (s.setFlags v).pcp = s.pcp := rfl
@[simp] theorem State.setFlags_pcs (v : Nibble) : (s.setFlags v).pcs = s.pcs := rfl
@[simp] theorem State.setFlags_nbp (v : Nibble) : (s.setFlags v).nbp = s.nbp := rfl
@[simp] theorem State.setFlags_npp (v : Nibble) : (s.setFlags v).npp = s.npp := rfl
@[simp] theorem State.setFlags_fi (v : Nibble) : (s.setFlags v).fi = v.getLsbD 3 := rfl
@[simp] theorem State.setFlags_fd (v : Nibble) : (s.setFlags v).fd = v.getLsbD 2 := rfl
@[simp] theorem State.setFlags_fz (v : Nibble) : (s.setFlags v).fz = v.getLsbD 1 := rfl
@[simp] theorem State.setFlags_fc (v : Nibble) : (s.setFlags v).fc = v.getLsbD 0 := rfl
@[simp] theorem State.setFlags_rp (v : Nibble) : (s.setFlags v).rp = s.rp := rfl
@[simp] theorem State.setFlags_tempA (v : Nibble) : (s.setFlags v).tempA = s.tempA := rfl
@[simp] theorem State.setFlags_tempB (v : Nibble) : (s.setFlags v).tempB = s.tempB := rfl
@[simp] theorem State.setFlags_ram (v : Nibble) : (s.setFlags v).ram = s.ram := rfl
@[simp] theorem State.setFlags_rom (v : Nibble) : (s.setFlags v).rom = s.rom := rfl
@[simp] theorem State.setFlags_psetf (v : Nibble) : (s.setFlags v).psetf = s.psetf := rfl
@[simp] theorem State.setFlags_idelay (v : Nibble) : (s.setFlags v).idelay = s.idelay := rfl
@[simp] theorem State.setFlags_runState (v : Nibble) : (s.setFlags v).runState = s.runState := rfl
@[simp] theorem State.setFlags_device (v : Nibble) : (s.setFlags v).device = s.device := rfl
@[simp] theorem State.setFlags_inputs (v : Nibble) : (s.setFlags v).inputs = s.inputs := rfl
@[simp] theorem State.setFlags_bus (v : Nibble) : (s.setFlags v).bus = s.bus := rfl
@[simp] theorem State.setFlags_draws (v : Nibble) : (s.setFlags v).draws = s.draws := rfl
@[simp] theorem State.setFlags_resets (v : Nibble) : (s.setFlags v).resets = s.resets := rfl
@[simp] theorem State.setFlags_pc12 (v : Nibble) : (s.setFlags v).pc12 = s.pc12 := rfl
@[simp] theorem State.setFlags_pc (v : Nibble) : (s.setFlags v).pc = s.pc := rfl
@[simp] theorem State.setFlags_xhl (v : Nibble) : (s.setFlags v).xhl = s.xhl := rfl
@[simp] theorem State.setFlags_yhl (v : Nibble) : (s.setFlags v).yhl = s.yhl := rfl
@[simp] theorem State.setFlags_ix (v : Nibble) : (s.setFlags v).ix = s.ix := rfl
@[simp] theorem State.setFlags_iy (v : Nibble) : (s.setFlags v).iy = s.iy := rfl
@[simp] theorem State.setFlags_ixNext (v : Nibble) : (s.setFlags v).ixNext = s.ixNext := rfl
@[simp] theorem State.setFlags_ramWord (v : Nibble) (addr : DataAddr) : (s.setFlags v).ramWord addr = s.ramWord addr := rfl
@[simp] theorem State.setFlags_readValue (v : Nibble) (addr : DataAddr) : (s.setFlags v).readValue addr = s.readValue addr := rfl

/-! ### setCZ -/

@[simp] theorem State.setCZ_a (c z : Bool) : (s.setCZ c z).a = s.a := rfl
@[simp] theorem State.setCZ_b (c z : Bool) : (s.setCZ c z).b = s.b := rfl
@[simp] theorem State.setCZ_xp (c z : Bool) : (s.setCZ c z).xp = s.xp := rfl
@[simp] theorem State.setCZ_xh (c z : Bool) : (s.setCZ c z).xh = s.xh := rfl
@[simp] theorem State.setCZ_xl (c z : Bool) : (s.setCZ c z).xl = s.xl := rfl
@[simp] theorem State.setCZ_yp (c z : Bool) : (s.setCZ c z).yp = s.yp := rfl
@[simp] theorem State.setCZ_yh (c z : Bool) : (s.setCZ c z).yh = s.yh := rfl
@[simp] theorem State.setCZ_yl (c z : Bool) : (s.setCZ c z).yl = s.yl := rfl
@[simp] theorem State.setCZ_sp (c z : Bool) : (s.setCZ c z).sp = s.sp := rfl
@[simp] theorem State.setCZ_pcb (c z : Bool) : (s.setCZ c z).pcb = s.pcb := rfl
@[simp] theorem State.setCZ_pcp (c z : Bool) : (s.setCZ c z).pcp = s.pcp := rfl
@[simp] theorem State.setCZ_pcs (c z : Bool) : (s.setCZ c z).pcs = s.pcs := rfl
@[simp] theorem State.setCZ_nbp (c z : Bool) : (s.setCZ c z).nbp = s.nbp := rfl
@[simp] theorem State.setCZ_npp (c z : Bool) : (s.setCZ c z).npp = s.npp := rfl
@[simp] theorem State.setCZ_fi (c z : Bool) : (s.setCZ c z).fi = s.fi := rfl
@[simp] theorem State.setCZ_fd (c z : Bool) : (s.setCZ c z).fd = s.fd := rfl
@[simp] theorem State.setCZ_fz (c z : Bool) : (s.setCZ c z).fz = z := rfl
@[simp] theorem State.setCZ_fc (c z : Bool) : (s.setCZ c z).fc = c := rfl
@[simp] theorem State.setCZ_rp (c z : Bool) : (s.setCZ c z).rp = s.rp := rfl
@[simp] theorem State.setCZ_tempA (c z : Bool) : (s.setCZ c z).tempA = s.tempA := rfl
@[simp] theorem State.setCZ_tempB (c z : Bool) : (s.setCZ c z).tempB = s.tempB := rfl
@[simp] theorem State.setCZ_ram (c z : Bool) : (s.setCZ c z).ram = s.ram := rfl
@[simp] theorem State.setCZ_rom (c z : Bool) : (s.setCZ c z).rom = s.rom := rfl
@[simp] theorem State.setCZ_psetf (c z : Bool) : (s.setCZ c z).psetf = s.psetf := rfl
@[simp] theorem State.setCZ_idelay (c z : Bool) : (s.setCZ c z).idelay = s.idelay := rfl
@[simp] theorem State.setCZ_runState (c z : Bool) : (s.setCZ c z).runState = s.runState := rfl
@[simp] theorem State.setCZ_device (c z : Bool) : (s.setCZ c z).device = s.device := rfl
@[simp] theorem State.setCZ_inputs (c z : Bool) : (s.setCZ c z).inputs = s.inputs := rfl
@[simp] theorem State.setCZ_bus (c z : Bool) : (s.setCZ c z).bus = s.bus := rfl
@[simp] theorem State.setCZ_draws (c z : Bool) : (s.setCZ c z).draws = s.draws := rfl
@[simp] theorem State.setCZ_resets (c z : Bool) : (s.setCZ c z).resets = s.resets := rfl
@[simp] theorem State.setCZ_pc12 (c z : Bool) : (s.setCZ c z).pc12 = s.pc12 := rfl
@[simp] theorem State.setCZ_pc (c z : Bool) : (s.setCZ c z).pc = s.pc := rfl
@[simp] theorem State.setCZ_xhl (c z : Bool) : (s.setCZ c z).xhl = s.xhl := rfl
@[simp] theorem State.setCZ_yhl (c z : Bool) : (s.setCZ c z).yhl = s.yhl := rfl
@[simp] theorem State.setCZ_ix (c z : Bool) : (s.setCZ c z).ix = s.ix := rfl
@[simp] theorem State.setCZ_iy (c z : Bool) : (s.setCZ c z).iy = s.iy := rfl
@[simp] theorem State.setCZ_ixNext (c z : Bool) : (s.setCZ c z).ixNext = s.ixNext := rfl
@[simp] theorem State.setCZ_ramWord (c z : Bool) (addr : DataAddr) : (s.setCZ c z).ramWord addr = s.ramWord addr := rfl
@[simp] theorem State.setCZ_readStop (c z : Bool) (addr : DataAddr) : (s.setCZ c z).readStop addr = s.readStop addr := rfl
@[simp] theorem State.setCZ_writeStop (c z : Bool) (addr : DataAddr) : (s.setCZ c z).writeStop addr = s.writeStop addr := rfl
@[simp] theorem State.setCZ_readValue (c z : Bool) (addr : DataAddr) : (s.setCZ c z).readValue addr = s.readValue addr := rfl

/-! ### setC -/

@[simp] theorem State.setC_a (c : Bool) : (s.setC c).a = s.a := rfl
@[simp] theorem State.setC_b (c : Bool) : (s.setC c).b = s.b := rfl
@[simp] theorem State.setC_xp (c : Bool) : (s.setC c).xp = s.xp := rfl
@[simp] theorem State.setC_xh (c : Bool) : (s.setC c).xh = s.xh := rfl
@[simp] theorem State.setC_xl (c : Bool) : (s.setC c).xl = s.xl := rfl
@[simp] theorem State.setC_yp (c : Bool) : (s.setC c).yp = s.yp := rfl
@[simp] theorem State.setC_yh (c : Bool) : (s.setC c).yh = s.yh := rfl
@[simp] theorem State.setC_yl (c : Bool) : (s.setC c).yl = s.yl := rfl
@[simp] theorem State.setC_sp (c : Bool) : (s.setC c).sp = s.sp := rfl
@[simp] theorem State.setC_pcb (c : Bool) : (s.setC c).pcb = s.pcb := rfl
@[simp] theorem State.setC_pcp (c : Bool) : (s.setC c).pcp = s.pcp := rfl
@[simp] theorem State.setC_pcs (c : Bool) : (s.setC c).pcs = s.pcs := rfl
@[simp] theorem State.setC_nbp (c : Bool) : (s.setC c).nbp = s.nbp := rfl
@[simp] theorem State.setC_npp (c : Bool) : (s.setC c).npp = s.npp := rfl
@[simp] theorem State.setC_fi (c : Bool) : (s.setC c).fi = s.fi := rfl
@[simp] theorem State.setC_fd (c : Bool) : (s.setC c).fd = s.fd := rfl
@[simp] theorem State.setC_fz (c : Bool) : (s.setC c).fz = s.fz := rfl
@[simp] theorem State.setC_fc (c : Bool) : (s.setC c).fc = c := rfl
@[simp] theorem State.setC_rp (c : Bool) : (s.setC c).rp = s.rp := rfl
@[simp] theorem State.setC_tempA (c : Bool) : (s.setC c).tempA = s.tempA := rfl
@[simp] theorem State.setC_tempB (c : Bool) : (s.setC c).tempB = s.tempB := rfl
@[simp] theorem State.setC_ram (c : Bool) : (s.setC c).ram = s.ram := rfl
@[simp] theorem State.setC_rom (c : Bool) : (s.setC c).rom = s.rom := rfl
@[simp] theorem State.setC_psetf (c : Bool) : (s.setC c).psetf = s.psetf := rfl
@[simp] theorem State.setC_idelay (c : Bool) : (s.setC c).idelay = s.idelay := rfl
@[simp] theorem State.setC_runState (c : Bool) : (s.setC c).runState = s.runState := rfl
@[simp] theorem State.setC_device (c : Bool) : (s.setC c).device = s.device := rfl
@[simp] theorem State.setC_inputs (c : Bool) : (s.setC c).inputs = s.inputs := rfl
@[simp] theorem State.setC_bus (c : Bool) : (s.setC c).bus = s.bus := rfl
@[simp] theorem State.setC_draws (c : Bool) : (s.setC c).draws = s.draws := rfl
@[simp] theorem State.setC_resets (c : Bool) : (s.setC c).resets = s.resets := rfl
@[simp] theorem State.setC_pc12 (c : Bool) : (s.setC c).pc12 = s.pc12 := rfl
@[simp] theorem State.setC_pc (c : Bool) : (s.setC c).pc = s.pc := rfl
@[simp] theorem State.setC_xhl (c : Bool) : (s.setC c).xhl = s.xhl := rfl
@[simp] theorem State.setC_yhl (c : Bool) : (s.setC c).yhl = s.yhl := rfl
@[simp] theorem State.setC_ix (c : Bool) : (s.setC c).ix = s.ix := rfl
@[simp] theorem State.setC_iy (c : Bool) : (s.setC c).iy = s.iy := rfl
@[simp] theorem State.setC_ixNext (c : Bool) : (s.setC c).ixNext = s.ixNext := rfl
@[simp] theorem State.setC_ramWord (c : Bool) (addr : DataAddr) : (s.setC c).ramWord addr = s.ramWord addr := rfl
@[simp] theorem State.setC_readStop (c : Bool) (addr : DataAddr) : (s.setC c).readStop addr = s.readStop addr := rfl
@[simp] theorem State.setC_writeStop (c : Bool) (addr : DataAddr) : (s.setC c).writeStop addr = s.writeStop addr := rfl
@[simp] theorem State.setC_readValue (c : Bool) (addr : DataAddr) : (s.setC c).readValue addr = s.readValue addr := rfl

/-! ### setZ -/

@[simp] theorem State.setZ_a (z : Bool) : (s.setZ z).a = s.a := rfl
@[simp] theorem State.setZ_b (z : Bool) : (s.setZ z).b = s.b := rfl
@[simp] theorem State.setZ_xp (z : Bool) : (s.setZ z).xp = s.xp := rfl
@[simp] theorem State.setZ_xh (z : Bool) : (s.setZ z).xh = s.xh := rfl
@[simp] theorem State.setZ_xl (z : Bool) : (s.setZ z).xl = s.xl := rfl
@[simp] theorem State.setZ_yp (z : Bool) : (s.setZ z).yp = s.yp := rfl
@[simp] theorem State.setZ_yh (z : Bool) : (s.setZ z).yh = s.yh := rfl
@[simp] theorem State.setZ_yl (z : Bool) : (s.setZ z).yl = s.yl := rfl
@[simp] theorem State.setZ_sp (z : Bool) : (s.setZ z).sp = s.sp := rfl
@[simp] theorem State.setZ_pcb (z : Bool) : (s.setZ z).pcb = s.pcb := rfl
@[simp] theorem State.setZ_pcp (z : Bool) : (s.setZ z).pcp = s.pcp := rfl
@[simp] theorem State.setZ_pcs (z : Bool) : (s.setZ z).pcs = s.pcs := rfl
@[simp] theorem State.setZ_nbp (z : Bool) : (s.setZ z).nbp = s.nbp := rfl
@[simp] theorem State.setZ_npp (z : Bool) : (s.setZ z).npp = s.npp := rfl
@[simp] theorem State.setZ_fi (z : Bool) : (s.setZ z).fi = s.fi := rfl
@[simp] theorem State.setZ_fd (z : Bool) : (s.setZ z).fd = s.fd := rfl
@[simp] theorem State.setZ_fz (z : Bool) : (s.setZ z).fz = z := rfl
@[simp] theorem State.setZ_fc (z : Bool) : (s.setZ z).fc = s.fc := rfl
@[simp] theorem State.setZ_rp (z : Bool) : (s.setZ z).rp = s.rp := rfl
@[simp] theorem State.setZ_tempA (z : Bool) : (s.setZ z).tempA = s.tempA := rfl
@[simp] theorem State.setZ_tempB (z : Bool) : (s.setZ z).tempB = s.tempB := rfl
@[simp] theorem State.setZ_ram (z : Bool) : (s.setZ z).ram = s.ram := rfl
@[simp] theorem State.setZ_rom (z : Bool) : (s.setZ z).rom = s.rom := rfl
@[simp] theorem State.setZ_psetf (z : Bool) : (s.setZ z).psetf = s.psetf := rfl
@[simp] theorem State.setZ_idelay (z : Bool) : (s.setZ z).idelay = s.idelay := rfl
@[simp] theorem State.setZ_runState (z : Bool) : (s.setZ z).runState = s.runState := rfl
@[simp] theorem State.setZ_device (z : Bool) : (s.setZ z).device = s.device := rfl
@[simp] theorem State.setZ_inputs (z : Bool) : (s.setZ z).inputs = s.inputs := rfl
@[simp] theorem State.setZ_bus (z : Bool) : (s.setZ z).bus = s.bus := rfl
@[simp] theorem State.setZ_draws (z : Bool) : (s.setZ z).draws = s.draws := rfl
@[simp] theorem State.setZ_resets (z : Bool) : (s.setZ z).resets = s.resets := rfl
@[simp] theorem State.setZ_pc12 (z : Bool) : (s.setZ z).pc12 = s.pc12 := rfl
@[simp] theorem State.setZ_pc (z : Bool) : (s.setZ z).pc = s.pc := rfl
@[simp] theorem State.setZ_xhl (z : Bool) : (s.setZ z).xhl = s.xhl := rfl
@[simp] theorem State.setZ_yhl (z : Bool) : (s.setZ z).yhl = s.yhl := rfl
@[simp] theorem State.setZ_ix (z : Bool) : (s.setZ z).ix = s.ix := rfl
@[simp] theorem State.setZ_iy (z : Bool) : (s.setZ z).iy = s.iy := rfl
@[simp] theorem State.setZ_ixNext (z : Bool) : (s.setZ z).ixNext = s.ixNext := rfl
@[simp] theorem State.setZ_ramWord (z : Bool) (addr : DataAddr) : (s.setZ z).ramWord addr = s.ramWord addr := rfl
@[simp] theorem State.setZ_readStop (z : Bool) (addr : DataAddr) : (s.setZ z).readStop addr = s.readStop addr := rfl
@[simp] theorem State.setZ_writeStop (z : Bool) (addr : DataAddr) : (s.setZ z).writeStop addr = s.writeStop addr := rfl
@[simp] theorem State.setZ_readValue (z : Bool) (addr : DataAddr) : (s.setZ z).readValue addr = s.readValue addr := rfl

/-! ### latch -/

@[simp] theorem State.latch_a (x y : Nibble) : (s.latch x y).a = s.a := rfl
@[simp] theorem State.latch_b (x y : Nibble) : (s.latch x y).b = s.b := rfl
@[simp] theorem State.latch_xp (x y : Nibble) : (s.latch x y).xp = s.xp := rfl
@[simp] theorem State.latch_xh (x y : Nibble) : (s.latch x y).xh = s.xh := rfl
@[simp] theorem State.latch_xl (x y : Nibble) : (s.latch x y).xl = s.xl := rfl
@[simp] theorem State.latch_yp (x y : Nibble) : (s.latch x y).yp = s.yp := rfl
@[simp] theorem State.latch_yh (x y : Nibble) : (s.latch x y).yh = s.yh := rfl
@[simp] theorem State.latch_yl (x y : Nibble) : (s.latch x y).yl = s.yl := rfl
@[simp] theorem State.latch_sp (x y : Nibble) : (s.latch x y).sp = s.sp := rfl
@[simp] theorem State.latch_pcb (x y : Nibble) : (s.latch x y).pcb = s.pcb := rfl
@[simp] theorem State.latch_pcp (x y : Nibble) : (s.latch x y).pcp = s.pcp := rfl
@[simp] theorem State.latch_pcs (x y : Nibble) : (s.latch x y).pcs = s.pcs := rfl
@[simp] theorem State.latch_nbp (x y : Nibble) : (s.latch x y).nbp = s.nbp := rfl
@[simp] theorem State.latch_npp (x y : Nibble) : (s.latch x y).npp = s.npp := rfl
@[simp] theorem State.latch_fi (x y : Nibble) : (s.latch x y).fi = s.fi := rfl
@[simp] theorem State.latch_fd (x y : Nibble) : (s.latch x y).fd = s.fd := rfl
@[simp] theorem State.latch_fz (x y : Nibble) : (s.latch x y).fz = s.fz := rfl
@[simp] theorem State.latch_fc (x y : Nibble) : (s.latch x y).fc = s.fc := rfl
@[simp] theorem State.latch_rp (x y : Nibble) : (s.latch x y).rp = s.rp := rfl
@[simp] theorem State.latch_tempA (x y : Nibble) : (s.latch x y).tempA = x := rfl
@[simp] theorem State.latch_tempB (x y : Nibble) : (s.latch x y).tempB = y := rfl
@[simp] theorem State.latch_ram (x y : Nibble) : (s.latch x y).ram = s.ram := rfl
@[simp] theorem State.latch_rom (x y : Nibble) : (s.latch x y).rom = s.rom := rfl
@[simp] theorem State.latch_psetf (x y : Nibble) : (s.latch x y).psetf = s.psetf := rfl
@[simp] theorem State.latch_idelay (x y : Nibble) : (s.latch x y).idelay = s.idelay := rfl
@[simp] theorem State.latch_runState (x y : Nibble) : (s.latch x y).runState = s.runState := rfl
@[simp] theorem State.latch_device (x y : Nibble) : (s.latch x y).device = s.device := rfl
@[simp] theorem State.latch_inputs (x y : Nibble) : (s.latch x y).inputs = s.inputs := rfl
@[simp] theorem State.latch_bus (x y : Nibble) : (s.latch x y).bus = s.bus := rfl
@[simp] theorem State.latch_draws (x y : Nibble) : (s.latch x y).draws = s.draws := rfl
@[simp] theorem State.latch_resets (x y : Nibble) : (s.latch x y).resets = s.resets := rfl
@[simp] theorem State.latch_pc12 (x y : Nibble) : (s.latch x y).pc12 = s.pc12 := rfl
@[simp] theorem State.latch_pc (x y : Nibble) : (s.latch x y).pc = s.pc := rfl
@[simp] theorem State.latch_xhl (x y : Nibble) : (s.latch x y).xhl = s.xhl := rfl
@[simp] theorem State.latch_yhl (x y : Nibble) : (s.latch x y).yhl = s.yhl := rfl
@[simp] theorem State.latch_ix (x y : Nibble) : (s.latch x y).ix = s.ix := rfl
@[simp] theorem State.latch_iy (x y : Nibble) : (s.latch x y).iy = s.iy := rfl
@[simp] theorem State.latch_ixNext (x y : Nibble) : (s.latch x y).ixNext = s.ixNext := rfl
@[simp] theorem State.latch_flags (x y : Nibble) : (s.latch x y).flags = s.flags := rfl
@[simp] theorem State.latch_ramWord (x y : Nibble) (addr : DataAddr) : (s.latch x y).ramWord addr = s.ramWord addr := rfl
@[simp] theorem State.latch_readStop (x y : Nibble) (addr : DataAddr) : (s.latch x y).readStop addr = s.readStop addr := rfl
@[simp] theorem State.latch_writeStop (x y : Nibble) (addr : DataAddr) : (s.latch x y).writeStop addr = s.writeStop addr := rfl
@[simp] theorem State.latch_readValue (x y : Nibble) (addr : DataAddr) : (s.latch x y).readValue addr = s.readValue addr := rfl

/-! ### latchA -/

@[simp] theorem State.latchA_a (x : Nibble) : (s.latchA x).a = s.a := rfl
@[simp] theorem State.latchA_b (x : Nibble) : (s.latchA x).b = s.b := rfl
@[simp] theorem State.latchA_xp (x : Nibble) : (s.latchA x).xp = s.xp := rfl
@[simp] theorem State.latchA_xh (x : Nibble) : (s.latchA x).xh = s.xh := rfl
@[simp] theorem State.latchA_xl (x : Nibble) : (s.latchA x).xl = s.xl := rfl
@[simp] theorem State.latchA_yp (x : Nibble) : (s.latchA x).yp = s.yp := rfl
@[simp] theorem State.latchA_yh (x : Nibble) : (s.latchA x).yh = s.yh := rfl
@[simp] theorem State.latchA_yl (x : Nibble) : (s.latchA x).yl = s.yl := rfl
@[simp] theorem State.latchA_sp (x : Nibble) : (s.latchA x).sp = s.sp := rfl
@[simp] theorem State.latchA_pcb (x : Nibble) : (s.latchA x).pcb = s.pcb := rfl
@[simp] theorem State.latchA_pcp (x : Nibble) : (s.latchA x).pcp = s.pcp := rfl
@[simp] theorem State.latchA_pcs (x : Nibble) : (s.latchA x).pcs = s.pcs := rfl
@[simp] theorem State.latchA_nbp (x : Nibble) : (s.latchA x).nbp = s.nbp := rfl
@[simp] theorem State.latchA_npp (x : Nibble) : (s.latchA x).npp = s.npp := rfl
@[simp] theorem State.latchA_fi (x : Nibble) : (s.latchA x).fi = s.fi := rfl
@[simp] theorem State.latchA_fd (x : Nibble) : (s.latchA x).fd = s.fd := rfl
@[simp] theorem State.latchA_fz (x : Nibble) : (s.latchA x).fz = s.fz := rfl
@[simp] theorem State.latchA_fc (x : Nibble) : (s.latchA x).fc = s.fc := rfl
@[simp] theorem State.latchA_rp (x : Nibble) : (s.latchA x).rp = s.rp := rfl
@[simp] theorem State.latchA_tempA (x : Nibble) : (s.latchA x).tempA = x := rfl
@[simp] theorem State.latchA_tempB (x : Nibble) : (s.latchA x).tempB = s.tempB := rfl
@[simp] theorem State.latchA_ram (x : Nibble) : (s.latchA x).ram = s.ram := rfl
@[simp] theorem State.latchA_rom (x : Nibble) : (s.latchA x).rom = s.rom := rfl
@[simp] theorem State.latchA_psetf (x : Nibble) : (s.latchA x).psetf = s.psetf := rfl
@[simp] theorem State.latchA_idelay (x : Nibble) : (s.latchA x).idelay = s.idelay := rfl
@[simp] theorem State.latchA_runState (x : Nibble) : (s.latchA x).runState = s.runState := rfl
@[simp] theorem State.latchA_device (x : Nibble) : (s.latchA x).device = s.device := rfl
@[simp] theorem State.latchA_inputs (x : Nibble) : (s.latchA x).inputs = s.inputs := rfl
@[simp] theorem State.latchA_bus (x : Nibble) : (s.latchA x).bus = s.bus := rfl
@[simp] theorem State.latchA_draws (x : Nibble) : (s.latchA x).draws = s.draws := rfl
@[simp] theorem State.latchA_resets (x : Nibble) : (s.latchA x).resets = s.resets := rfl
@[simp] theorem State.latchA_pc12 (x : Nibble) : (s.latchA x).pc12 = s.pc12 := rfl
@[simp] theorem State.latchA_pc (x : Nibble) : (s.latchA x).pc = s.pc := rfl
@[simp] theorem State.latchA_xhl (x : Nibble) : (s.latchA x).xhl = s.xhl := rfl
@[simp] theorem State.latchA_yhl (x : Nibble) : (s.latchA x).yhl = s.yhl := rfl
@[simp] theorem State.latchA_ix (x : Nibble) : (s.latchA x).ix = s.ix := rfl
@[simp] theorem State.latchA_iy (x : Nibble) : (s.latchA x).iy = s.iy := rfl
@[simp] theorem State.latchA_ixNext (x : Nibble) : (s.latchA x).ixNext = s.ixNext := rfl
@[simp] theorem State.latchA_flags (x : Nibble) : (s.latchA x).flags = s.flags := rfl
@[simp] theorem State.latchA_ramWord (x : Nibble) (addr : DataAddr) : (s.latchA x).ramWord addr = s.ramWord addr := rfl
@[simp] theorem State.latchA_readStop (x : Nibble) (addr : DataAddr) : (s.latchA x).readStop addr = s.readStop addr := rfl
@[simp] theorem State.latchA_writeStop (x : Nibble) (addr : DataAddr) : (s.latchA x).writeStop addr = s.writeStop addr := rfl
@[simp] theorem State.latchA_readValue (x : Nibble) (addr : DataAddr) : (s.latchA x).readValue addr = s.readValue addr := rfl

/-! ### loadRP -/

@[simp] theorem State.loadRP_a (n : Nibble) : (s.loadRP n).a = s.a := rfl
@[simp] theorem State.loadRP_b (n : Nibble) : (s.loadRP n).b = s.b := rfl
@[simp] theorem State.loadRP_xp (n : Nibble) : (s.loadRP n).xp = s.xp := rfl
@[simp] theorem State.loadRP_xh (n : Nibble) : (s.loadRP n).xh = s.xh := rfl
@[simp] theorem State.loadRP_xl (n : Nibble) : (s.loadRP n).xl = s.xl := rfl
@[simp] theorem State.loadRP_yp (n : Nibble) : (s.loadRP n).yp = s.yp := rfl
@[simp] theorem State.loadRP_yh (n : Nibble) : (s.loadRP n).yh = s.yh := rfl
@[simp] theorem State.loadRP_yl (n : Nibble) : (s.loadRP n).yl = s.yl := rfl
@[simp] theorem State.loadRP_sp (n : Nibble) : (s.loadRP n).sp = s.sp := rfl
@[simp] theorem State.loadRP_pcb (n : Nibble) : (s.loadRP n).pcb = s.pcb := rfl
@[simp] theorem State.loadRP_pcp (n : Nibble) : (s.loadRP n).pcp = s.pcp := rfl
@[simp] theorem State.loadRP_pcs (n : Nibble) : (s.loadRP n).pcs = s.pcs := rfl
@[simp] theorem State.loadRP_nbp (n : Nibble) : (s.loadRP n).nbp = s.nbp := rfl
@[simp] theorem State.loadRP_npp (n : Nibble) : (s.loadRP n).npp = s.npp := rfl
@[simp] theorem State.loadRP_fi (n : Nibble) : (s.loadRP n).fi = s.fi := rfl
@[simp] theorem State.loadRP_fd (n : Nibble) : (s.loadRP n).fd = s.fd := rfl
@[simp] theorem State.loadRP_fz (n : Nibble) : (s.loadRP n).fz = s.fz := rfl
@[simp] theorem State.loadRP_fc (n : Nibble) : (s.loadRP n).fc = s.fc := rfl
@[simp] theorem State.loadRP_rp (n : Nibble) : (s.loadRP n).rp = n := rfl
@[simp] theorem State.loadRP_tempA (n : Nibble) : (s.loadRP n).tempA = s.tempA := rfl
@[simp] theorem State.loadRP_tempB (n : Nibble) : (s.loadRP n).tempB = s.tempB := rfl
@[simp] theorem State.loadRP_ram (n : Nibble) : (s.loadRP n).ram = s.ram := rfl
@[simp] theorem State.loadRP_rom (n : Nibble) : (s.loadRP n).rom = s.rom := rfl
@[simp] theorem State.loadRP_psetf (n : Nibble) : (s.loadRP n).psetf = s.psetf := rfl
@[simp] theorem State.loadRP_idelay (n : Nibble) : (s.loadRP n).idelay = s.idelay := rfl
@[simp] theorem State.loadRP_runState (n : Nibble) : (s.loadRP n).runState = s.runState := rfl
@[simp] theorem State.loadRP_device (n : Nibble) : (s.loadRP n).device = s.device := rfl
@[simp] theorem State.loadRP_inputs (n : Nibble) : (s.loadRP n).inputs = s.inputs := rfl
@[simp] theorem State.loadRP_bus (n : Nibble) : (s.loadRP n).bus = s.bus := rfl
@[simp] theorem State.loadRP_draws (n : Nibble) : (s.loadRP n).draws = s.draws := rfl
@[simp] theorem State.loadRP_resets (n : Nibble) : (s.loadRP n).resets = s.resets := rfl
@[simp] theorem State.loadRP_pc12 (n : Nibble) : (s.loadRP n).pc12 = s.pc12 := rfl
@[simp] theorem State.loadRP_pc (n : Nibble) : (s.loadRP n).pc = s.pc := rfl
@[simp] theorem State.loadRP_xhl (n : Nibble) : (s.loadRP n).xhl = s.xhl := rfl
@[simp] theorem State.loadRP_yhl (n : Nibble) : (s.loadRP n).yhl = s.yhl := rfl
@[simp] theorem State.loadRP_ix (n : Nibble) : (s.loadRP n).ix = s.ix := rfl
@[simp] theorem State.loadRP_iy (n : Nibble) : (s.loadRP n).iy = s.iy := rfl
@[simp] theorem State.loadRP_ixNext (n : Nibble) : (s.loadRP n).ixNext = s.ixNext := rfl
@[simp] theorem State.loadRP_flags (n : Nibble) : (s.loadRP n).flags = s.flags := rfl
@[simp] theorem State.loadRP_ramWord (n : Nibble) (addr : DataAddr) : (s.loadRP n).ramWord addr = s.ramWord addr := rfl
@[simp] theorem State.loadRP_readStop (n : Nibble) (addr : DataAddr) : (s.loadRP n).readStop addr = s.readStop addr := rfl
@[simp] theorem State.loadRP_writeStop (n : Nibble) (addr : DataAddr) : (s.loadRP n).writeStop addr = s.writeStop addr := rfl
@[simp] theorem State.loadRP_readValue (n : Nibble) (addr : DataAddr) : (s.loadRP n).readValue addr = s.readValue addr := rfl

/-! ### atBoundary -/

@[simp] theorem State.atBoundary_a : s.atBoundary.a = s.a := rfl
@[simp] theorem State.atBoundary_b : s.atBoundary.b = s.b := rfl
@[simp] theorem State.atBoundary_xp : s.atBoundary.xp = s.xp := rfl
@[simp] theorem State.atBoundary_xh : s.atBoundary.xh = s.xh := rfl
@[simp] theorem State.atBoundary_xl : s.atBoundary.xl = s.xl := rfl
@[simp] theorem State.atBoundary_yp : s.atBoundary.yp = s.yp := rfl
@[simp] theorem State.atBoundary_yh : s.atBoundary.yh = s.yh := rfl
@[simp] theorem State.atBoundary_yl : s.atBoundary.yl = s.yl := rfl
@[simp] theorem State.atBoundary_sp : s.atBoundary.sp = s.sp := rfl
@[simp] theorem State.atBoundary_pcb : s.atBoundary.pcb = s.pcb := rfl
@[simp] theorem State.atBoundary_pcp : s.atBoundary.pcp = s.pcp := rfl
@[simp] theorem State.atBoundary_pcs : s.atBoundary.pcs = s.pcs := rfl
@[simp] theorem State.atBoundary_nbp : s.atBoundary.nbp = s.nbp := rfl
@[simp] theorem State.atBoundary_npp : s.atBoundary.npp = s.npp := rfl
@[simp] theorem State.atBoundary_fi : s.atBoundary.fi = s.fi := rfl
@[simp] theorem State.atBoundary_fd : s.atBoundary.fd = s.fd := rfl
@[simp] theorem State.atBoundary_fz : s.atBoundary.fz = s.fz := rfl
@[simp] theorem State.atBoundary_fc : s.atBoundary.fc = s.fc := rfl
@[simp] theorem State.atBoundary_rp : s.atBoundary.rp = s.rp := rfl
@[simp] theorem State.atBoundary_tempA : s.atBoundary.tempA = s.tempA := rfl
@[simp] theorem State.atBoundary_tempB : s.atBoundary.tempB = s.tempB := rfl
@[simp] theorem State.atBoundary_ram : s.atBoundary.ram = s.ram := rfl
@[simp] theorem State.atBoundary_rom : s.atBoundary.rom = s.rom := rfl
@[simp] theorem State.atBoundary_psetf : s.atBoundary.psetf = s.psetf := rfl
@[simp] theorem State.atBoundary_idelay : s.atBoundary.idelay = s.idelay := rfl
@[simp] theorem State.atBoundary_runState : s.atBoundary.runState = s.runState := rfl
@[simp] theorem State.atBoundary_device : s.atBoundary.device = s.device := rfl
@[simp] theorem State.atBoundary_inputs : s.atBoundary.inputs = s.inputs.tail := rfl
@[simp] theorem State.atBoundary_bus : s.atBoundary.bus = s.bus := rfl
@[simp] theorem State.atBoundary_draws : s.atBoundary.draws = s.draws := rfl
@[simp] theorem State.atBoundary_resets : s.atBoundary.resets = s.resets := rfl
@[simp] theorem State.atBoundary_pc12 : s.atBoundary.pc12 = s.pc12 := rfl
@[simp] theorem State.atBoundary_pc : s.atBoundary.pc = s.pc := rfl
@[simp] theorem State.atBoundary_xhl : s.atBoundary.xhl = s.xhl := rfl
@[simp] theorem State.atBoundary_yhl : s.atBoundary.yhl = s.yhl := rfl
@[simp] theorem State.atBoundary_ix : s.atBoundary.ix = s.ix := rfl
@[simp] theorem State.atBoundary_iy : s.atBoundary.iy = s.iy := rfl
@[simp] theorem State.atBoundary_ixNext : s.atBoundary.ixNext = s.ixNext := rfl
@[simp] theorem State.atBoundary_flags : s.atBoundary.flags = s.flags := rfl
@[simp] theorem State.atBoundary_ramWord (addr : DataAddr) : s.atBoundary.ramWord addr = s.ramWord addr := rfl
@[simp] theorem State.atBoundary_readStop (addr : DataAddr) : s.atBoundary.readStop addr = s.readStop addr := rfl
@[simp] theorem State.atBoundary_writeStop (addr : DataAddr) : s.atBoundary.writeStop addr = s.writeStop addr := rfl
@[simp] theorem State.atBoundary_readValue (addr : DataAddr) : s.atBoundary.readValue addr = s.readValue addr := rfl

end Sys2Proof.Machine
end

