-- ==== Sys2Proof/Laws/Ops.lean ====
section
/-!
SUPPORT. For each shared operation, one lemma that says everything it can do: it answers exactly when the accesses it
makes complete, and then with this state. Later proofs cite these and unfold no operation.
-/

namespace Sys2Proof.Machine

/-! ### Results -/

/-- A sequence answers exactly when both parts do. -/
theorem Res.bind_ok {α β : Type} (x : Res α) (f : α → Res β) (b : β) :
    (x >>= f) = .ok b ↔ ∃ p, x = .ok p ∧ f p = .ok b := by
  cases x <;> simp [bind, Except.bind]

/-- An instruction answers a next state exactly when its meaning gives one. -/
@[simp] theorem finish_next (x : Res State) (t : State) : finish x = .next t ↔ x = .ok t := by
  cases x with
  | ok s => simp [finish]
  | error e => cases e <;> simp [finish]

/-- `pure` answers what it is given. -/
theorem Res.pure_ok {α : Type} (x y : α) : (pure x : Res α) = .ok y ↔ y = x := by
  simp [pure, Except.pure, eq_comm]

/-- An answer is the one it is. -/
theorem Res.ok_ok {α : Type} (x y : α) : (Except.ok x : Res α) = .ok y ↔ y = x := by
  simp [eq_comm]

/-! ### Words made of parts -/

/-- The page and the step of a 12-bit address, put together again. -/
@[simp] theorem parts12 (v : BitVec 12) : v.extractLsb' 8 4 ++ v.extractLsb' 0 8 = v := by
  ext i hi
  simp only [BitVec.getElem_append, BitVec.getElem_extractLsb']
  split
  · simp only [Nat.zero_add, BitVec.getLsbD_eq_getElem hi]
  · rw [← BitVec.getLsbD_eq_getElem hi]; congr 1; omega

/-- The two halves of an 8-bit value, put together again. -/
@[simp] theorem parts8 (v : BitVec 8) : v.extractLsb' 4 4 ++ v.extractLsb' 0 4 = v := by
  ext i hi
  simp only [BitVec.getElem_append, BitVec.getElem_extractLsb']
  split
  · simp only [Nat.zero_add, BitVec.getLsbD_eq_getElem hi]
  · rw [← BitVec.getLsbD_eq_getElem hi]; congr 1; omega

@[simp] theorem State.setPC12_pc12 (s : State) (v : BitVec 12) : (s.setPC12 v).pc12 = v := parts12 v
@[simp] theorem State.nextPC_pc12 (s : State) : s.nextPC.pc12 = s.pc12 + 1 := parts12 _
@[simp] theorem State.setXhl_xhl (s : State) (v : BitVec 8) : (s.setXhl v).xhl = v := parts8 v
@[simp] theorem State.setYhl_yhl (s : State) (v : BitVec 8) : (s.setYhl v).yhl = v := parts8 v
@[simp] theorem State.bumpX_xhl (s : State) (k : BitVec 8) : (s.bumpX k).xhl = s.xhl + k := parts8 _
@[simp] theorem State.bumpY_yhl (s : State) : s.bumpY.yhl = s.yhl + 1 := parts8 _

/-- Different data addresses are different places of the RAM. -/
theorem DataAddr.toNat_ne {x y : DataAddr} (h : x ≠ y) : x.toNat ≠ y.toNat := fun e => h (BitVec.eq_of_toNat_eq e)

/-- Two data addresses that are equal have the same low part. -/
theorem DataAddr.low_eq {p q : Nibble} {x y : BitVec 8} (h : (p ++ x : DataAddr) = q ++ y) : x = y := by
  ext i hi
  have := congrArg (fun v : BitVec (4 + 8) => v.getLsbD i) h
  simpa only [BitVec.getLsbD_append, hi, ↓reduceIte, BitVec.getLsbD_eq_getElem] using this

/-- Different values of SP form different addresses. -/
@[simp] theorem stackAddr_inj (x y : BitVec 8) : stackAddr x = stackAddr y ↔ x = y := by
  exact ⟨fun h => DataAddr.low_eq h, fun h => h ▸ rfl⟩

/-- The two words of a pair store are different words. -/
@[simp] theorem State.ix_ne_ixNext (s : State) : ¬ s.ix = s.ixNext := by
  intro h
  have := DataAddr.low_eq h
  bv_omega

/-! ### One access of data memory (R64) -/

/-- A read answers exactly when it may, with the value and the state it leaves. -/
theorem State.memRead_ok (s : State) (addr : DataAddr) (p : Nibble × State) :
    s.memRead addr = .ok p ↔ s.CanRead addr ∧ p = (s.readValue addr, s.afterRead addr) := by
  unfold State.memRead State.CanRead
  cases s.readStop addr <;> simp [eq_comm]

/-- A write answers exactly when it may, with the state it leaves. -/
theorem State.memWrite_ok (s : State) (addr : DataAddr) (v : Nibble) (t : State) :
    s.memWrite addr v = .ok t ↔ s.CanWrite addr ∧ t = s.afterWrite addr v := by
  unfold State.memWrite State.CanWrite
  cases s.writeStop addr <;> simp [eq_comm]

@[simp] theorem State.afterRead_a (s : State) (addr : DataAddr) : (s.afterRead addr).a = s.a := by
  unfold State.afterRead; split <;> rfl
@[simp] theorem State.afterRead_b (s : State) (addr : DataAddr) : (s.afterRead addr).b = s.b := by
  unfold State.afterRead; split <;> rfl
@[simp] theorem State.afterRead_xp (s : State) (addr : DataAddr) : (s.afterRead addr).xp = s.xp := by
  unfold State.afterRead; split <;> rfl
@[simp] theorem State.afterRead_xh (s : State) (addr : DataAddr) : (s.afterRead addr).xh = s.xh := by
  unfold State.afterRead; split <;> rfl
@[simp] theorem State.afterRead_xl (s : State) (addr : DataAddr) : (s.afterRead addr).xl = s.xl := by
  unfold State.afterRead; split <;> rfl
@[simp] theorem State.afterRead_yp (s : State) (addr : DataAddr) : (s.afterRead addr).yp = s.yp := by
  unfold State.afterRead; split <;> rfl
@[simp] theorem State.afterRead_yh (s : State) (addr : DataAddr) : (s.afterRead addr).yh = s.yh := by
  unfold State.afterRead; split <;> rfl
@[simp] theorem State.afterRead_yl (s : State) (addr : DataAddr) : (s.afterRead addr).yl = s.yl := by
  unfold State.afterRead; split <;> rfl
@[simp] theorem State.afterRead_sp (s : State) (addr : DataAddr) : (s.afterRead addr).sp = s.sp := by
  unfold State.afterRead; split <;> rfl
@[simp] theorem State.afterRead_pcb (s : State) (addr : DataAddr) : (s.afterRead addr).pcb = s.pcb := by
  unfold State.afterRead; split <;> rfl
@[simp] theorem State.afterRead_pcp (s : State) (addr : DataAddr) : (s.afterRead addr).pcp = s.pcp := by
  unfold State.afterRead; split <;> rfl
@[simp] theorem State.afterRead_pcs (s : State) (addr : DataAddr) : (s.afterRead addr).pcs = s.pcs := by
  unfold State.afterRead; split <;> rfl
@[simp] theorem State.afterRead_nbp (s : State) (addr : DataAddr) : (s.afterRead addr).nbp = s.nbp := by
  unfold State.afterRead; split <;> rfl
@[simp] theorem State.afterRead_npp (s : State) (addr : DataAddr) : (s.afterRead addr).npp = s.npp := by
  unfold State.afterRead; split <;> rfl
@[simp] theorem State.afterRead_fi (s : State) (addr : DataAddr) : (s.afterRead addr).fi = s.fi := by
  unfold State.afterRead; split <;> rfl
@[simp] theorem State.afterRead_fd (s : State) (addr : DataAddr) : (s.afterRead addr).fd = s.fd := by
  unfold State.afterRead; split <;> rfl
@[simp] theorem State.afterRead_fz (s : State) (addr : DataAddr) : (s.afterRead addr).fz = s.fz := by
  unfold State.afterRead; split <;> rfl
@[simp] theorem State.afterRead_fc (s : State) (addr : DataAddr) : (s.afterRead addr).fc = s.fc := by
  unfold State.afterRead; split <;> rfl
@[simp] theorem State.afterRead_rp (s : State) (addr : DataAddr) : (s.afterRead addr).rp = s.rp := by
  unfold State.afterRead; split <;> rfl
@[simp] theorem State.afterRead_tempA (s : State) (addr : DataAddr) : (s.afterRead addr).tempA = s.tempA := by
  unfold State.afterRead; split <;> rfl
@[simp] theorem State.afterRead_tempB (s : State) (addr : DataAddr) : (s.afterRead addr).tempB = s.tempB := by
  unfold State.afterRead; split <;> rfl
@[simp] theorem State.afterRead_ram (s : State) (addr : DataAddr) : (s.afterRead addr).ram = s.ram := by
  unfold State.afterRead; split <;> rfl
@[simp] theorem State.afterRead_rom (s : State) (addr : DataAddr) : (s.afterRead addr).rom = s.rom := by
  unfold State.afterRead; split <;> rfl
@[simp] theorem State.afterRead_psetf (s : State) (addr : DataAddr) : (s.afterRead addr).psetf = s.psetf := by
  unfold State.afterRead; split <;> rfl
@[simp] theorem State.afterRead_idelay (s : State) (addr : DataAddr) : (s.afterRead addr).idelay = s.idelay := by
  unfold State.afterRead; split <;> rfl
@[simp] theorem State.afterRead_runState (s : State) (addr : DataAddr) : (s.afterRead addr).runState = s.runState := by
  unfold State.afterRead; split <;> rfl
@[simp] theorem State.afterRead_device (s : State) (addr : DataAddr) : (s.afterRead addr).device = s.device := by
  unfold State.afterRead; split <;> rfl
@[simp] theorem State.afterRead_inputs (s : State) (addr : DataAddr) : (s.afterRead addr).inputs = s.inputs := by
  unfold State.afterRead; split <;> rfl
@[simp] theorem State.afterRead_draws (s : State) (addr : DataAddr) : (s.afterRead addr).draws = s.draws := by
  unfold State.afterRead; split <;> rfl
@[simp] theorem State.afterRead_resets (s : State) (addr : DataAddr) : (s.afterRead addr).resets = s.resets := by
  unfold State.afterRead; split <;> rfl
@[simp] theorem State.afterWrite_a (s : State) (addr : DataAddr) (v : Nibble) : (s.afterWrite addr v).a = s.a := by
  unfold State.afterWrite; split <;> rfl
@[simp] theorem State.afterWrite_b (s : State) (addr : DataAddr) (v : Nibble) : (s.afterWrite addr v).b = s.b := by
  unfold State.afterWrite; split <;> rfl
@[simp] theorem State.afterWrite_xp (s : State) (addr : DataAddr) (v : Nibble) : (s.afterWrite addr v).xp = s.xp := by
  unfold State.afterWrite; split <;> rfl
@[simp] theorem State.afterWrite_xh (s : State) (addr : DataAddr) (v : Nibble) : (s.afterWrite addr v).xh = s.xh := by
  unfold State.afterWrite; split <;> rfl
@[simp] theorem State.afterWrite_xl (s : State) (addr : DataAddr) (v : Nibble) : (s.afterWrite addr v).xl = s.xl := by
  unfold State.afterWrite; split <;> rfl
@[simp] theorem State.afterWrite_yp (s : State) (addr : DataAddr) (v : Nibble) : (s.afterWrite addr v).yp = s.yp := by
  unfold State.afterWrite; split <;> rfl
@[simp] theorem State.afterWrite_yh (s : State) (addr : DataAddr) (v : Nibble) : (s.afterWrite addr v).yh = s.yh := by
  unfold State.afterWrite; split <;> rfl
@[simp] theorem State.afterWrite_yl (s : State) (addr : DataAddr) (v : Nibble) : (s.afterWrite addr v).yl = s.yl := by
  unfold State.afterWrite; split <;> rfl
@[simp] theorem State.afterWrite_sp (s : State) (addr : DataAddr) (v : Nibble) : (s.afterWrite addr v).sp = s.sp := by
  unfold State.afterWrite; split <;> rfl
@[simp] theorem State.afterWrite_pcb (s : State) (addr : DataAddr) (v : Nibble) : (s.afterWrite addr v).pcb = s.pcb := by
  unfold State.afterWrite; split <;> rfl
@[simp] theorem State.afterWrite_pcp (s : State) (addr : DataAddr) (v : Nibble) : (s.afterWrite addr v).pcp = s.pcp := by
  unfold State.afterWrite; split <;> rfl
@[simp] theorem State.afterWrite_pcs (s : State) (addr : DataAddr) (v : Nibble) : (s.afterWrite addr v).pcs = s.pcs := by
  unfold State.afterWrite; split <;> rfl
@[simp] theorem State.afterWrite_nbp (s : State) (addr : DataAddr) (v : Nibble) : (s.afterWrite addr v).nbp = s.nbp := by
  unfold State.afterWrite; split <;> rfl
@[simp] theorem State.afterWrite_npp (s : State) (addr : DataAddr) (v : Nibble) : (s.afterWrite addr v).npp = s.npp := by
  unfold State.afterWrite; split <;> rfl
@[simp] theorem State.afterWrite_fi (s : State) (addr : DataAddr) (v : Nibble) : (s.afterWrite addr v).fi = s.fi := by
  unfold State.afterWrite; split <;> rfl
@[simp] theorem State.afterWrite_fd (s : State) (addr : DataAddr) (v : Nibble) : (s.afterWrite addr v).fd = s.fd := by
  unfold State.afterWrite; split <;> rfl
@[simp] theorem State.afterWrite_fz (s : State) (addr : DataAddr) (v : Nibble) : (s.afterWrite addr v).fz = s.fz := by
  unfold State.afterWrite; split <;> rfl
@[simp] theorem State.afterWrite_fc (s : State) (addr : DataAddr) (v : Nibble) : (s.afterWrite addr v).fc = s.fc := by
  unfold State.afterWrite; split <;> rfl
@[simp] theorem State.afterWrite_rp (s : State) (addr : DataAddr) (v : Nibble) : (s.afterWrite addr v).rp = s.rp := by
  unfold State.afterWrite; split <;> rfl
@[simp] theorem State.afterWrite_tempA (s : State) (addr : DataAddr) (v : Nibble) : (s.afterWrite addr v).tempA = s.tempA := by
  unfold State.afterWrite; split <;> rfl
@[simp] theorem State.afterWrite_tempB (s : State) (addr : DataAddr) (v : Nibble) : (s.afterWrite addr v).tempB = s.tempB := by
  unfold State.afterWrite; split <;> rfl
@[simp] theorem State.afterWrite_rom (s : State) (addr : DataAddr) (v : Nibble) : (s.afterWrite addr v).rom = s.rom := by
  unfold State.afterWrite; split <;> rfl
@[simp] theorem State.afterWrite_psetf (s : State) (addr : DataAddr) (v : Nibble) : (s.afterWrite addr v).psetf = s.psetf := by
  unfold State.afterWrite; split <;> rfl
@[simp] theorem State.afterWrite_idelay (s : State) (addr : DataAddr) (v : Nibble) : (s.afterWrite addr v).idelay = s.idelay := by
  unfold State.afterWrite; split <;> rfl
@[simp] theorem State.afterWrite_runState (s : State) (addr : DataAddr) (v : Nibble) : (s.afterWrite addr v).runState = s.runState := by
  unfold State.afterWrite; split <;> rfl
@[simp] theorem State.afterWrite_device (s : State) (addr : DataAddr) (v : Nibble) : (s.afterWrite addr v).device = s.device := by
  unfold State.afterWrite; split <;> rfl
@[simp] theorem State.afterWrite_inputs (s : State) (addr : DataAddr) (v : Nibble) : (s.afterWrite addr v).inputs = s.inputs := by
  unfold State.afterWrite; split <;> rfl
@[simp] theorem State.afterWrite_draws (s : State) (addr : DataAddr) (v : Nibble) : (s.afterWrite addr v).draws = s.draws := by
  unfold State.afterWrite; split <;> rfl
@[simp] theorem State.afterWrite_resets (s : State) (addr : DataAddr) (v : Nibble) : (s.afterWrite addr v).resets = s.resets := by
  unfold State.afterWrite; split <;> rfl

/-- A read leaves every RAM word. -/
@[simp] theorem State.afterRead_ramWord (s : State) (addr b : DataAddr) :
    (s.afterRead addr).ramWord b = s.ramWord b := by
  unfold State.afterRead; split <;> rfl

/-- A read of RAM leaves the record of peripheral accesses. -/
theorem State.afterRead_bus_ram (s : State) (addr : DataAddr) (h : kindAt s.device addr = .ram) :
    (s.afterRead addr).bus = s.bus := by
  simp [State.afterRead, h]

/-- A write of RAM leaves the record of peripheral accesses. -/
theorem State.afterWrite_bus_ram (s : State) (addr : DataAddr) (v : Nibble) (h : kindAt s.device addr = .ram) :
    (s.afterWrite addr v).bus = s.bus := by
  simp [State.afterWrite, h]

/-- Every RAM word after a write. -/
theorem State.afterWrite_ramWord (s : State) (addr b : DataAddr) (v : Nibble) :
    (s.afterWrite addr v).ramWord b =
      if b = addr ∧ kindAt s.device addr = .ram then v else s.ramWord b := by
  unfold State.afterWrite
  by_cases hk : kindAt s.device addr = .ram
  · simp only [hk, ↓reduceIte, and_true, State.ramWord, Memory.lookup_store]
    by_cases hb : b = addr
    · simp [hb]
    · simp [hb, DataAddr.toNat_ne hb]
  · simp [hk, State.ramWord]

/-- A write leaves every RAM word at another address. -/
theorem State.afterWrite_ramWord_ne (s : State) {addr b : DataAddr} (v : Nibble) (h : b ≠ addr) :
    (s.afterWrite addr v).ramWord b = s.ramWord b := by
  simp [State.afterWrite_ramWord, h]

/-- The peripherals see a read that is theirs. -/
theorem State.afterRead_bus (s : State) (addr : DataAddr) :
    (s.afterRead addr).bus = s.busAfter [.read addr (s.readValue addr)] := by
  by_cases h : kindAt s.device addr = .ram <;> simp [State.afterRead, State.busAfter, BusEvent.address, h]

/-- The peripherals see a write that is theirs. -/
theorem State.afterWrite_bus (s : State) (addr : DataAddr) (v : Nibble) :
    (s.afterWrite addr v).bus = s.busAfter [.write addr v] := by
  by_cases h : kindAt s.device addr = .ram <;> simp [State.afterWrite, State.busAfter, BusEvent.address, h]

/-- A read after other accesses. -/
theorem State.afterRead_bus_from {s t : State} {l : List BusEvent} (addr : DataAddr) (hd : t.device = s.device)
    (hb : t.bus = s.busAfter l) : (t.afterRead addr).bus = s.busAfter (l ++ [.read addr (t.readValue addr)]) := by
  simp [State.afterRead_bus, State.busAfter, hd, hb]

/-- A write after other accesses. -/
theorem State.afterWrite_bus_from {s t : State} {l : List BusEvent} (addr : DataAddr) (v : Nibble)
    (hd : t.device = s.device) (hb : t.bus = s.busAfter l) :
    (t.afterWrite addr v).bus = s.busAfter (l ++ [.write addr v]) := by
  simp [State.afterWrite_bus, State.busAfter, hd, hb]

/-- No access. -/
@[simp] theorem State.busAfter_nil (s : State) : s.busAfter [] = s.bus := rfl

@[simp] theorem State.afterRead_pc12 (s : State) (addr : DataAddr) : (s.afterRead addr).pc12 = s.pc12 := by
  unfold State.afterRead; split <;> rfl
@[simp] theorem State.afterRead_xhl (s : State) (addr : DataAddr) : (s.afterRead addr).xhl = s.xhl := by
  unfold State.afterRead; split <;> rfl
@[simp] theorem State.afterRead_yhl (s : State) (addr : DataAddr) : (s.afterRead addr).yhl = s.yhl := by
  unfold State.afterRead; split <;> rfl
@[simp] theorem State.afterRead_ix (s : State) (addr : DataAddr) : (s.afterRead addr).ix = s.ix := by
  unfold State.afterRead; split <;> rfl
@[simp] theorem State.afterRead_iy (s : State) (addr : DataAddr) : (s.afterRead addr).iy = s.iy := by
  unfold State.afterRead; split <;> rfl
@[simp] theorem State.afterRead_ixNext (s : State) (addr : DataAddr) : (s.afterRead addr).ixNext = s.ixNext := by
  unfold State.afterRead; split <;> rfl
@[simp] theorem State.afterRead_flags (s : State) (addr : DataAddr) : (s.afterRead addr).flags = s.flags := by
  unfold State.afterRead; split <;> rfl
@[simp] theorem State.afterRead_CanRead (s : State) (addr : DataAddr) (c : DataAddr) : (s.afterRead addr).CanRead c ↔ s.CanRead c := by
  unfold State.afterRead; split <;> rfl
@[simp] theorem State.afterRead_CanWrite (s : State) (addr : DataAddr) (c : DataAddr) : (s.afterRead addr).CanWrite c ↔ s.CanWrite c := by
  unfold State.afterRead; split <;> rfl
@[simp] theorem State.afterRead_CanReadOperand (s : State) (addr : DataAddr) (r : Reg) : (s.afterRead addr).CanReadOperand r ↔ s.CanReadOperand r := by
  unfold State.afterRead; split <;> rfl
@[simp] theorem State.afterRead_CanWriteOperand (s : State) (addr : DataAddr) (r : Reg) : (s.afterRead addr).CanWriteOperand r ↔ s.CanWriteOperand r := by
  unfold State.afterRead; split <;> rfl
@[simp] theorem State.afterWrite_pc12 (s : State) (addr : DataAddr) (v : Nibble) : (s.afterWrite addr v).pc12 = s.pc12 := by
  unfold State.afterWrite; split <;> rfl
@[simp] theorem State.afterWrite_xhl (s : State) (addr : DataAddr) (v : Nibble) : (s.afterWrite addr v).xhl = s.xhl := by
  unfold State.afterWrite; split <;> rfl
@[simp] theorem State.afterWrite_yhl (s : State) (addr : DataAddr) (v : Nibble) : (s.afterWrite addr v).yhl = s.yhl := by
  unfold State.afterWrite; split <;> rfl
@[simp] theorem State.afterWrite_ix (s : State) (addr : DataAddr) (v : Nibble) : (s.afterWrite addr v).ix = s.ix := by
  unfold State.afterWrite; split <;> rfl
@[simp] theorem State.afterWrite_iy (s : State) (addr : DataAddr) (v : Nibble) : (s.afterWrite addr v).iy = s.iy := by
  unfold State.afterWrite; split <;> rfl
@[simp] theorem State.afterWrite_ixNext (s : State) (addr : DataAddr) (v : Nibble) : (s.afterWrite addr v).ixNext = s.ixNext := by
  unfold State.afterWrite; split <;> rfl
@[simp] theorem State.afterWrite_flags (s : State) (addr : DataAddr) (v : Nibble) : (s.afterWrite addr v).flags = s.flags := by
  unfold State.afterWrite; split <;> rfl
@[simp] theorem State.afterWrite_CanRead (s : State) (addr : DataAddr) (v : Nibble) (c : DataAddr) : (s.afterWrite addr v).CanRead c ↔ s.CanRead c := by
  unfold State.afterWrite; split <;> rfl
@[simp] theorem State.afterWrite_CanWrite (s : State) (addr : DataAddr) (v : Nibble) (c : DataAddr) : (s.afterWrite addr v).CanWrite c ↔ s.CanWrite c := by
  unfold State.afterWrite; split <;> rfl
@[simp] theorem State.afterWrite_CanReadOperand (s : State) (addr : DataAddr) (v : Nibble) (r : Reg) : (s.afterWrite addr v).CanReadOperand r ↔ s.CanReadOperand r := by
  unfold State.afterWrite; split <;> rfl
@[simp] theorem State.afterWrite_CanWriteOperand (s : State) (addr : DataAddr) (v : Nibble) (r : Reg) : (s.afterWrite addr v).CanWriteOperand r ↔ s.CanWriteOperand r := by
  unfold State.afterWrite; split <;> rfl

/-! ### Operands (R96) -/

@[simp] theorem State.afterOperand_a (s : State) (r : Reg) : (s.afterOperand r).a = s.a := by
  cases r <;> simp [State.afterOperand]
@[simp] theorem State.afterOperand_b (s : State) (r : Reg) : (s.afterOperand r).b = s.b := by
  cases r <;> simp [State.afterOperand]
@[simp] theorem State.afterOperand_xp (s : State) (r : Reg) : (s.afterOperand r).xp = s.xp := by
  cases r <;> simp [State.afterOperand]
@[simp] theorem State.afterOperand_xh (s : State) (r : Reg) : (s.afterOperand r).xh = s.xh := by
  cases r <;> simp [State.afterOperand]
@[simp] theorem State.afterOperand_xl (s : State) (r : Reg) : (s.afterOperand r).xl = s.xl := by
  cases r <;> simp [State.afterOperand]
@[simp] theorem State.afterOperand_yp (s : State) (r : Reg) : (s.afterOperand r).yp = s.yp := by
  cases r <;> simp [State.afterOperand]
@[simp] theorem State.afterOperand_yh (s : State) (r : Reg) : (s.afterOperand r).yh = s.yh := by
  cases r <;> simp [State.afterOperand]
@[simp] theorem State.afterOperand_yl (s : State) (r : Reg) : (s.afterOperand r).yl = s.yl := by
  cases r <;> simp [State.afterOperand]
@[simp] theorem State.afterOperand_sp (s : State) (r : Reg) : (s.afterOperand r).sp = s.sp := by
  cases r <;> simp [State.afterOperand]
@[simp] theorem State.afterOperand_pcb (s : State) (r : Reg) : (s.afterOperand r).pcb = s.pcb := by
  cases r <;> simp [State.afterOperand]
@[simp] theorem State.afterOperand_pcp (s : State) (r : Reg) : (s.afterOperand r).pcp = s.pcp := by
  cases r <;> simp [State.afterOperand]
@[simp] theorem State.afterOperand_pcs (s : State) (r : Reg) : (s.afterOperand r).pcs = s.pcs := by
  cases r <;> simp [State.afterOperand]
@[simp] theorem State.afterOperand_nbp (s : State) (r : Reg) : (s.afterOperand r).nbp = s.nbp := by
  cases r <;> simp [State.afterOperand]
@[simp] theorem State.afterOperand_npp (s : State) (r : Reg) : (s.afterOperand r).npp = s.npp := by
  cases r <;> simp [State.afterOperand]
@[simp] theorem State.afterOperand_fi (s : State) (r : Reg) : (s.afterOperand r).fi = s.fi := by
  cases r <;> simp [State.afterOperand]
@[simp] theorem State.afterOperand_fd (s : State) (r : Reg) : (s.afterOperand r).fd = s.fd := by
  cases r <;> simp [State.afterOperand]
@[simp] theorem State.afterOperand_fz (s : State) (r : Reg) : (s.afterOperand r).fz = s.fz := by
  cases r <;> simp [State.afterOperand]
@[simp] theorem State.afterOperand_fc (s : State) (r : Reg) : (s.afterOperand r).fc = s.fc := by
  cases r <;> simp [State.afterOperand]
@[simp] theorem State.afterOperand_rp (s : State) (r : Reg) : (s.afterOperand r).rp = s.rp := by
  cases r <;> simp [State.afterOperand]
@[simp] theorem State.afterOperand_tempA (s : State) (r : Reg) : (s.afterOperand r).tempA = s.tempA := by
  cases r <;> simp [State.afterOperand]
@[simp] theorem State.afterOperand_tempB (s : State) (r : Reg) : (s.afterOperand r).tempB = s.tempB := by
  cases r <;> simp [State.afterOperand]
@[simp] theorem State.afterOperand_ram (s : State) (r : Reg) : (s.afterOperand r).ram = s.ram := by
  cases r <;> simp [State.afterOperand]
@[simp] theorem State.afterOperand_rom (s : State) (r : Reg) : (s.afterOperand r).rom = s.rom := by
  cases r <;> simp [State.afterOperand]
@[simp] theorem State.afterOperand_psetf (s : State) (r : Reg) : (s.afterOperand r).psetf = s.psetf := by
  cases r <;> simp [State.afterOperand]
@[simp] theorem State.afterOperand_idelay (s : State) (r : Reg) : (s.afterOperand r).idelay = s.idelay := by
  cases r <;> simp [State.afterOperand]
@[simp] theorem State.afterOperand_runState (s : State) (r : Reg) : (s.afterOperand r).runState = s.runState := by
  cases r <;> simp [State.afterOperand]
@[simp] theorem State.afterOperand_device (s : State) (r : Reg) : (s.afterOperand r).device = s.device := by
  cases r <;> simp [State.afterOperand]
@[simp] theorem State.afterOperand_inputs (s : State) (r : Reg) : (s.afterOperand r).inputs = s.inputs := by
  cases r <;> simp [State.afterOperand]
@[simp] theorem State.afterOperand_draws (s : State) (r : Reg) : (s.afterOperand r).draws = s.draws := by
  cases r <;> simp [State.afterOperand]
@[simp] theorem State.afterOperand_resets (s : State) (r : Reg) : (s.afterOperand r).resets = s.resets := by
  cases r <;> simp [State.afterOperand]
@[simp] theorem State.afterPut_xp (s : State) (r : Reg) (v : Nibble) : (s.afterPut r v).xp = s.xp := by
  cases r <;> simp [State.afterPut]
@[simp] theorem State.afterPut_xh (s : State) (r : Reg) (v : Nibble) : (s.afterPut r v).xh = s.xh := by
  cases r <;> simp [State.afterPut]
@[simp] theorem State.afterPut_xl (s : State) (r : Reg) (v : Nibble) : (s.afterPut r v).xl = s.xl := by
  cases r <;> simp [State.afterPut]
@[simp] theorem State.afterPut_yp (s : State) (r : Reg) (v : Nibble) : (s.afterPut r v).yp = s.yp := by
  cases r <;> simp [State.afterPut]
@[simp] theorem State.afterPut_yh (s : State) (r : Reg) (v : Nibble) : (s.afterPut r v).yh = s.yh := by
  cases r <;> simp [State.afterPut]
@[simp] theorem State.afterPut_yl (s : State) (r : Reg) (v : Nibble) : (s.afterPut r v).yl = s.yl := by
  cases r <;> simp [State.afterPut]
@[simp] theorem State.afterPut_sp (s : State) (r : Reg) (v : Nibble) : (s.afterPut r v).sp = s.sp := by
  cases r <;> simp [State.afterPut]
@[simp] theorem State.afterPut_pcb (s : State) (r : Reg) (v : Nibble) : (s.afterPut r v).pcb = s.pcb := by
  cases r <;> simp [State.afterPut]
@[simp] theorem State.afterPut_pcp (s : State) (r : Reg) (v : Nibble) : (s.afterPut r v).pcp = s.pcp := by
  cases r <;> simp [State.afterPut]
@[simp] theorem State.afterPut_pcs (s : State) (r : Reg) (v : Nibble) : (s.afterPut r v).pcs = s.pcs := by
  cases r <;> simp [State.afterPut]
@[simp] theorem State.afterPut_nbp (s : State) (r : Reg) (v : Nibble) : (s.afterPut r v).nbp = s.nbp := by
  cases r <;> simp [State.afterPut]
@[simp] theorem State.afterPut_npp (s : State) (r : Reg) (v : Nibble) : (s.afterPut r v).npp = s.npp := by
  cases r <;> simp [State.afterPut]
@[simp] theorem State.afterPut_fi (s : State) (r : Reg) (v : Nibble) : (s.afterPut r v).fi = s.fi := by
  cases r <;> simp [State.afterPut]
@[simp] theorem State.afterPut_fd (s : State) (r : Reg) (v : Nibble) : (s.afterPut r v).fd = s.fd := by
  cases r <;> simp [State.afterPut]
@[simp] theorem State.afterPut_fz (s : State) (r : Reg) (v : Nibble) : (s.afterPut r v).fz = s.fz := by
  cases r <;> simp [State.afterPut]
@[simp] theorem State.afterPut_fc (s : State) (r : Reg) (v : Nibble) : (s.afterPut r v).fc = s.fc := by
  cases r <;> simp [State.afterPut]
@[simp] theorem State.afterPut_rp (s : State) (r : Reg) (v : Nibble) : (s.afterPut r v).rp = s.rp := by
  cases r <;> simp [State.afterPut]
@[simp] theorem State.afterPut_tempA (s : State) (r : Reg) (v : Nibble) : (s.afterPut r v).tempA = s.tempA := by
  cases r <;> simp [State.afterPut]
@[simp] theorem State.afterPut_tempB (s : State) (r : Reg) (v : Nibble) : (s.afterPut r v).tempB = s.tempB := by
  cases r <;> simp [State.afterPut]
@[simp] theorem State.afterPut_rom (s : State) (r : Reg) (v : Nibble) : (s.afterPut r v).rom = s.rom := by
  cases r <;> simp [State.afterPut]
@[simp] theorem State.afterPut_psetf (s : State) (r : Reg) (v : Nibble) : (s.afterPut r v).psetf = s.psetf := by
  cases r <;> simp [State.afterPut]
@[simp] theorem State.afterPut_idelay (s : State) (r : Reg) (v : Nibble) : (s.afterPut r v).idelay = s.idelay := by
  cases r <;> simp [State.afterPut]
@[simp] theorem State.afterPut_runState (s : State) (r : Reg) (v : Nibble) : (s.afterPut r v).runState = s.runState := by
  cases r <;> simp [State.afterPut]
@[simp] theorem State.afterPut_device (s : State) (r : Reg) (v : Nibble) : (s.afterPut r v).device = s.device := by
  cases r <;> simp [State.afterPut]
@[simp] theorem State.afterPut_inputs (s : State) (r : Reg) (v : Nibble) : (s.afterPut r v).inputs = s.inputs := by
  cases r <;> simp [State.afterPut]
@[simp] theorem State.afterPut_draws (s : State) (r : Reg) (v : Nibble) : (s.afterPut r v).draws = s.draws := by
  cases r <;> simp [State.afterPut]
@[simp] theorem State.afterPut_resets (s : State) (r : Reg) (v : Nibble) : (s.afterPut r v).resets = s.resets := by
  cases r <;> simp [State.afterPut]
@[simp] theorem State.afterOperand_pc12 (s : State) (r : Reg) : (s.afterOperand r).pc12 = s.pc12 := by
  cases r <;> simp [State.afterOperand]
@[simp] theorem State.afterOperand_xhl (s : State) (r : Reg) : (s.afterOperand r).xhl = s.xhl := by
  cases r <;> simp [State.afterOperand]
@[simp] theorem State.afterOperand_yhl (s : State) (r : Reg) : (s.afterOperand r).yhl = s.yhl := by
  cases r <;> simp [State.afterOperand]
@[simp] theorem State.afterOperand_ix (s : State) (r : Reg) : (s.afterOperand r).ix = s.ix := by
  cases r <;> simp [State.afterOperand]
@[simp] theorem State.afterOperand_iy (s : State) (r : Reg) : (s.afterOperand r).iy = s.iy := by
  cases r <;> simp [State.afterOperand]
@[simp] theorem State.afterOperand_ixNext (s : State) (r : Reg) : (s.afterOperand r).ixNext = s.ixNext := by
  cases r <;> simp [State.afterOperand]
@[simp] theorem State.afterOperand_flags (s : State) (r : Reg) : (s.afterOperand r).flags = s.flags := by
  cases r <;> simp [State.afterOperand]
@[simp] theorem State.afterPut_pc12 (s : State) (r : Reg) (v : Nibble) : (s.afterPut r v).pc12 = s.pc12 := by
  cases r <;> simp [State.afterPut] <;> rfl
@[simp] theorem State.afterPut_xhl (s : State) (r : Reg) (v : Nibble) : (s.afterPut r v).xhl = s.xhl := by
  cases r <;> simp [State.afterPut] <;> rfl
@[simp] theorem State.afterPut_yhl (s : State) (r : Reg) (v : Nibble) : (s.afterPut r v).yhl = s.yhl := by
  cases r <;> simp [State.afterPut] <;> rfl
@[simp] theorem State.afterPut_ix (s : State) (r : Reg) (v : Nibble) : (s.afterPut r v).ix = s.ix := by
  cases r <;> simp [State.afterPut] <;> rfl
@[simp] theorem State.afterPut_iy (s : State) (r : Reg) (v : Nibble) : (s.afterPut r v).iy = s.iy := by
  cases r <;> simp [State.afterPut] <;> rfl
@[simp] theorem State.afterPut_ixNext (s : State) (r : Reg) (v : Nibble) : (s.afterPut r v).ixNext = s.ixNext := by
  cases r <;> simp [State.afterPut] <;> rfl
@[simp] theorem State.afterPut_flags (s : State) (r : Reg) (v : Nibble) : (s.afterPut r v).flags = s.flags := by
  cases r <;> simp [State.afterPut] <;> rfl
@[simp] theorem State.afterOperand_ramWord (s : State) (r : Reg) (b : DataAddr) :
    (s.afterOperand r).ramWord b = s.ramWord b := by
  cases r <;> simp [State.afterOperand]
@[simp] theorem State.afterOperand_CanRead (s : State) (r : Reg) (c : DataAddr) :
    (s.afterOperand r).CanRead c ↔ s.CanRead c := by cases r <;> simp [State.afterOperand]
@[simp] theorem State.afterOperand_CanWrite (s : State) (r : Reg) (c : DataAddr) :
    (s.afterOperand r).CanWrite c ↔ s.CanWrite c := by cases r <;> simp [State.afterOperand]
@[simp] theorem State.afterOperand_CanReadOperand (s : State) (r q : Reg) :
    (s.afterOperand r).CanReadOperand q ↔ s.CanReadOperand q := by cases r <;> simp [State.afterOperand]
@[simp] theorem State.afterOperand_CanWriteOperand (s : State) (r q : Reg) :
    (s.afterOperand r).CanWriteOperand q ↔ s.CanWriteOperand q := by cases r <;> simp [State.afterOperand]
@[simp] theorem State.afterOperand_CanReadSrc (s : State) (r : Reg) (q : Src) :
    (s.afterOperand r).CanReadSrc q ↔ s.CanReadSrc q := by cases q <;> simp [State.CanReadSrc]

@[simp] theorem State.afterSrc_a (s : State) (q : Src) : (s.afterSrc q).a = s.a := by
  cases q <;> simp [State.afterSrc]
@[simp] theorem State.afterSrc_b (s : State) (q : Src) : (s.afterSrc q).b = s.b := by
  cases q <;> simp [State.afterSrc]
@[simp] theorem State.afterSrc_xp (s : State) (q : Src) : (s.afterSrc q).xp = s.xp := by
  cases q <;> simp [State.afterSrc]
@[simp] theorem State.afterSrc_xh (s : State) (q : Src) : (s.afterSrc q).xh = s.xh := by
  cases q <;> simp [State.afterSrc]
@[simp] theorem State.afterSrc_xl (s : State) (q : Src) : (s.afterSrc q).xl = s.xl := by
  cases q <;> simp [State.afterSrc]
@[simp] theorem State.afterSrc_yp (s : State) (q : Src) : (s.afterSrc q).yp = s.yp := by
  cases q <;> simp [State.afterSrc]
@[simp] theorem State.afterSrc_yh (s : State) (q : Src) : (s.afterSrc q).yh = s.yh := by
  cases q <;> simp [State.afterSrc]
@[simp] theorem State.afterSrc_yl (s : State) (q : Src) : (s.afterSrc q).yl = s.yl := by
  cases q <;> simp [State.afterSrc]
@[simp] theorem State.afterSrc_sp (s : State) (q : Src) : (s.afterSrc q).sp = s.sp := by
  cases q <;> simp [State.afterSrc]
@[simp] theorem State.afterSrc_pcb (s : State) (q : Src) : (s.afterSrc q).pcb = s.pcb := by
  cases q <;> simp [State.afterSrc]
@[simp] theorem State.afterSrc_pcp (s : State) (q : Src) : (s.afterSrc q).pcp = s.pcp := by
  cases q <;> simp [State.afterSrc]
@[simp] theorem State.afterSrc_pcs (s : State) (q : Src) : (s.afterSrc q).pcs = s.pcs := by
  cases q <;> simp [State.afterSrc]
@[simp] theorem State.afterSrc_nbp (s : State) (q : Src) : (s.afterSrc q).nbp = s.nbp := by
  cases q <;> simp [State.afterSrc]
@[simp] theorem State.afterSrc_npp (s : State) (q : Src) : (s.afterSrc q).npp = s.npp := by
  cases q <;> simp [State.afterSrc]
@[simp] theorem State.afterSrc_fi (s : State) (q : Src) : (s.afterSrc q).fi = s.fi := by
  cases q <;> simp [State.afterSrc]
@[simp] theorem State.afterSrc_fd (s : State) (q : Src) : (s.afterSrc q).fd = s.fd := by
  cases q <;> simp [State.afterSrc]
@[simp] theorem State.afterSrc_fz (s : State) (q : Src) : (s.afterSrc q).fz = s.fz := by
  cases q <;> simp [State.afterSrc]
@[simp] theorem State.afterSrc_fc (s : State) (q : Src) : (s.afterSrc q).fc = s.fc := by
  cases q <;> simp [State.afterSrc]
@[simp] theorem State.afterSrc_rp (s : State) (q : Src) : (s.afterSrc q).rp = s.rp := by
  cases q <;> simp [State.afterSrc]
@[simp] theorem State.afterSrc_tempA (s : State) (q : Src) : (s.afterSrc q).tempA = s.tempA := by
  cases q <;> simp [State.afterSrc]
@[simp] theorem State.afterSrc_tempB (s : State) (q : Src) : (s.afterSrc q).tempB = s.tempB := by
  cases q <;> simp [State.afterSrc]
@[simp] theorem State.afterSrc_ram (s : State) (q : Src) : (s.afterSrc q).ram = s.ram := by
  cases q <;> simp [State.afterSrc]
@[simp] theorem State.afterSrc_rom (s : State) (q : Src) : (s.afterSrc q).rom = s.rom := by
  cases q <;> simp [State.afterSrc]
@[simp] theorem State.afterSrc_psetf (s : State) (q : Src) : (s.afterSrc q).psetf = s.psetf := by
  cases q <;> simp [State.afterSrc]
@[simp] theorem State.afterSrc_idelay (s : State) (q : Src) : (s.afterSrc q).idelay = s.idelay := by
  cases q <;> simp [State.afterSrc]
@[simp] theorem State.afterSrc_runState (s : State) (q : Src) : (s.afterSrc q).runState = s.runState := by
  cases q <;> simp [State.afterSrc]
@[simp] theorem State.afterSrc_device (s : State) (q : Src) : (s.afterSrc q).device = s.device := by
  cases q <;> simp [State.afterSrc]
@[simp] theorem State.afterSrc_inputs (s : State) (q : Src) : (s.afterSrc q).inputs = s.inputs := by
  cases q <;> simp [State.afterSrc]
@[simp] theorem State.afterSrc_draws (s : State) (q : Src) : (s.afterSrc q).draws = s.draws := by
  cases q <;> simp [State.afterSrc]
@[simp] theorem State.afterSrc_resets (s : State) (q : Src) : (s.afterSrc q).resets = s.resets := by
  cases q <;> simp [State.afterSrc]
@[simp] theorem State.afterSrc_ramWord (s : State) (q : Src) (b : DataAddr) :
    (s.afterSrc q).ramWord b = s.ramWord b := by
  cases q <;> simp [State.afterSrc]
@[simp] theorem State.afterSrc_CanWriteOperand (s : State) (q : Src) (r : Reg) :
    (s.afterSrc q).CanWriteOperand r ↔ s.CanWriteOperand r := by cases q <;> simp [State.afterSrc]
@[simp] theorem State.afterSrc_CanWrite (s : State) (q : Src) (c : DataAddr) :
    (s.afterSrc q).CanWrite c ↔ s.CanWrite c := by cases q <;> simp [State.afterSrc]
@[simp] theorem State.afterSrc_pc12 (s : State) (q : Src) : (s.afterSrc q).pc12 = s.pc12 := by
  cases q <;> simp [State.afterSrc]
@[simp] theorem State.latch_CanWriteOperand (s : State) (x y : Nibble) (r : Reg) :
    (s.latch x y).CanWriteOperand r ↔ s.CanWriteOperand r := by cases r <;> rfl
@[simp] theorem State.latch_CanWrite (s : State) (x y : Nibble) (c : DataAddr) :
    (s.latch x y).CanWrite c ↔ s.CanWrite c := Iff.rfl
@[simp] theorem State.latchA_CanWriteOperand (s : State) (x : Nibble) (r : Reg) :
    (s.latchA x).CanWriteOperand r ↔ s.CanWriteOperand r := by cases r <;> rfl
@[simp] theorem State.loadRP_CanRead (s : State) (n : Nibble) (c : DataAddr) :
    (s.loadRP n).CanRead c ↔ s.CanRead c := Iff.rfl
@[simp] theorem State.loadRP_CanWrite (s : State) (n : Nibble) (c : DataAddr) :
    (s.loadRP n).CanWrite c ↔ s.CanWrite c := Iff.rfl
@[simp] theorem State.setSP_CanRead (s : State) (v : BitVec 8) (c : DataAddr) :
    (s.setSP v).CanRead c ↔ s.CanRead c := Iff.rfl
@[simp] theorem State.setSP_CanWrite (s : State) (v : BitVec 8) (c : DataAddr) :
    (s.setSP v).CanWrite c ↔ s.CanWrite c := Iff.rfl
@[simp] theorem State.setSP_CanReadOperand (s : State) (v : BitVec 8) (r : Reg) :
    (s.setSP v).CanReadOperand r ↔ s.CanReadOperand r := by cases r <;> rfl
@[simp] theorem State.setSP_CanWriteOperand (s : State) (v : BitVec 8) (r : Reg) :
    (s.setSP v).CanWriteOperand r ↔ s.CanWriteOperand r := by cases r <;> rfl
@[simp] theorem State.begun_CanRead (s : State) (c : DataAddr) : s.begun.CanRead c ↔ s.CanRead c := Iff.rfl
@[simp] theorem State.begun_CanWrite (s : State) (c : DataAddr) : s.begun.CanWrite c ↔ s.CanWrite c := Iff.rfl
@[simp] theorem State.begun_CanReadOperand (s : State) (r : Reg) :
    s.begun.CanReadOperand r ↔ s.CanReadOperand r := by cases r <;> rfl
@[simp] theorem State.begun_CanWriteOperand (s : State) (r : Reg) :
    s.begun.CanWriteOperand r ↔ s.CanWriteOperand r := by cases r <;> rfl
@[simp] theorem State.begun_CanReadSrc (s : State) (q : Src) : s.begun.CanReadSrc q ↔ s.CanReadSrc q := by
  cases q <;> simp [State.CanReadSrc]
@[simp] theorem State.begun_operand (s : State) (r : Reg) : s.begun.operand r = s.operand r := by cases r <;> rfl

/-- Clearing PSETF and IDELAY does not matter to a read. -/
@[simp] theorem State.begun_afterRead (s : State) (addr : DataAddr) :
    s.begun.afterRead addr = (s.afterRead addr).begun := by
  by_cases h : kindAt s.device addr = .ram
  · simp [State.afterRead, h]
  · simp [State.afterRead, h]; rfl

/-- Clearing PSETF and IDELAY does not matter to a write. -/
@[simp] theorem State.begun_afterWrite (s : State) (addr : DataAddr) (v : Nibble) :
    s.begun.afterWrite addr v = (s.afterWrite addr v).begun := by
  by_cases h : kindAt s.device addr = .ram
  · simp [State.afterWrite, h]; rfl
  · simp [State.afterWrite, h]; rfl

/-- Clearing PSETF and IDELAY does not matter to the write of an operand. -/
@[simp] theorem State.begun_afterPut (s : State) (r : Reg) (v : Nibble) :
    s.begun.afterPut r v = (s.afterPut r v).begun := by
  cases r <;> first | rfl | simp [State.afterPut]

/-- Clearing PSETF and IDELAY does not matter to the read of an operand. -/
@[simp] theorem State.begun_afterOperand (s : State) (r : Reg) :
    s.begun.afterOperand r = (s.afterOperand r).begun := by cases r <;> simp [State.afterOperand]

/-- Clearing PSETF and IDELAY does not matter to a popped address. -/
@[simp] theorem State.begun_poppedReturn (s : State) : s.begun.poppedReturn = s.poppedReturn := by
  simp [State.poppedReturn]
@[simp] theorem State.begun_CanPushReturn (s : State) : s.begun.CanPushReturn ↔ s.CanPushReturn := Iff.rfl
@[simp] theorem State.begun_CanPopReturn (s : State) : s.begun.CanPopReturn ↔ s.CanPopReturn := Iff.rfl

/-- Reading an operand answers exactly when it may. -/
theorem State.regRead_ok (s : State) (r : Reg) (p : Nibble × State) :
    s.regRead r = .ok p ↔ s.CanReadOperand r ∧ p = (s.operand r, s.afterOperand r) := by
  cases r <;>
    simp [State.regRead, State.CanReadOperand, State.operandAddrs, State.operand, State.afterOperand,
      State.memRead_ok, Res.ok_ok, -Except.ok.injEq]

/-- Writing an operand answers exactly when it may. -/
theorem State.regWrite_ok (s : State) (r : Reg) (v : Nibble) (t : State) :
    s.regWrite r v = .ok t ↔ s.CanWriteOperand r ∧ t = s.afterPut r v := by
  cases r <;>
    simp [State.regWrite, State.CanWriteOperand, State.operandAddrs, State.afterPut, State.memWrite_ok, Res.ok_ok,
      -Except.ok.injEq]

/-- Reading a second operand answers exactly when it may. -/
theorem State.srcRead_ok (s : State) (q : Src) (p : Nibble × State) :
    s.srcRead q = .ok p ↔ s.CanReadSrc q ∧ p = (s.srcValue q, s.afterSrc q) := by
  cases q <;>
    simp [State.srcRead, State.CanReadSrc, State.srcValue, State.afterSrc, State.regRead_ok, Res.ok_ok,
      -Except.ok.injEq]

/-- Giving an operand a value leaves every RAM word that is not the operand. -/
theorem State.afterPut_ramWord_ne (s : State) (r : Reg) (v : Nibble) {addr : DataAddr} (h : addr ∉ s.operandAddrs r) :
    (s.afterPut r v).ramWord addr = s.ramWord addr := by
  cases r with
  | a => rfl
  | b => rfl
  | mx => exact State.afterWrite_ramWord_ne s v (by simpa [State.operandAddrs] using h)
  | my => exact State.afterWrite_ramWord_ne s v (by simpa [State.operandAddrs] using h)

/-- After an operand is given a value it has taken it. -/
theorem State.afterPut_took (s : State) (r : Reg) (v : Nibble) : s.OperandTook (s.afterPut r v) r v := by
  cases r <;> simp +contextual [State.OperandTook, State.afterPut, State.afterWrite_ramWord]

/-- The peripherals see the read of an operand that is theirs. -/
theorem State.afterOperand_bus (s : State) (r : Reg) :
    (s.afterOperand r).bus = s.busAfter (s.reads r (s.operand r)) := by
  cases r <;> simp [State.afterOperand, State.reads, State.operandAddrs, State.operand, State.afterRead_bus]

/-- The peripherals see the write of an operand that is theirs. -/
theorem State.afterPut_bus (s : State) (r : Reg) (v : Nibble) : (s.afterPut r v).bus = s.busAfter (s.writes r v) := by
  cases r <;> simp [State.afterPut, State.writes, State.operandAddrs, State.afterWrite_bus]

/-- A read of an operand after other accesses. -/
theorem State.afterOperand_bus_from {s t : State} {l : List BusEvent} (r : Reg) (hd : t.device = s.device)
    (hb : t.bus = s.busAfter l) : (t.afterOperand r).bus = s.busAfter (l ++ t.reads r (t.operand r)) := by
  simp [State.afterOperand_bus, State.busAfter, hd, hb]

/-- A write of an operand after other accesses. -/
theorem State.afterPut_bus_from {s t : State} {l : List BusEvent} (r : Reg) (v : Nibble)
    (hd : t.device = s.device) (hb : t.bus = s.busAfter l) :
    (t.afterPut r v).bus = s.busAfter (l ++ t.writes r v) := by
  simp [State.afterPut_bus, State.busAfter, hd, hb]

@[simp] theorem State.afterOperand_writes (s : State) (q r : Reg) (v : Nibble) :
    (s.afterOperand q).writes r v = s.writes r v := by cases r <;> simp [State.writes, State.operandAddrs]
@[simp] theorem State.afterOperand_operandAddrs (s : State) (q r : Reg) :
    (s.afterOperand q).operandAddrs r = s.operandAddrs r := by cases r <;> simp [State.operandAddrs]
@[simp] theorem State.latch_writes (s : State) (x y : Nibble) (r : Reg) (v : Nibble) :
    (s.latch x y).writes r v = s.writes r v := by cases r <;> rfl
@[simp] theorem State.latch_operandAddrs (s : State) (x y : Nibble) (r : Reg) :
    (s.latch x y).operandAddrs r = s.operandAddrs r := by cases r <;> rfl
@[simp] theorem State.afterSrc_writes (s : State) (q : Src) (r : Reg) (v : Nibble) :
    (s.afterSrc q).writes r v = s.writes r v := by cases q <;> simp [State.afterSrc]
@[simp] theorem State.afterSrc_operandAddrs (s : State) (q : Src) (r : Reg) :
    (s.afterSrc q).operandAddrs r = s.operandAddrs r := by cases q <;> simp [State.afterSrc]

/-! ### The shared shapes -/

/-- Everything `arith` can do. -/
theorem State.arith_ok (s : State) (f : Nibble → Nibble → AluOut) (r : Reg) (src : Src) (t : State) :
    s.arith f r src = .ok t ↔
      s.CanReadOperand r ∧ s.CanReadSrc src ∧ s.CanWriteOperand r ∧
      t = (((((s.afterOperand r).afterSrc src).latch (s.operand r) ((s.afterOperand r).srcValue src)).afterPut r
        (f (s.operand r) ((s.afterOperand r).srcValue src)).out).setCZ
          (f (s.operand r) ((s.afterOperand r).srcValue src)).c
          (f (s.operand r) ((s.afterOperand r).srcValue src)).z).nextPC := by
  simp only [State.arith, Res.bind_ok, Res.pure_ok, State.regRead_ok, State.srcRead_ok, State.regWrite_ok,
    and_assoc, exists_and_left, exists_eq_left,
    State.afterOperand_CanReadSrc, State.latch_CanWriteOperand, State.afterSrc_CanWriteOperand,
    State.afterOperand_CanWriteOperand]

/-- Everything `logic` can do. -/
theorem State.logic_ok (s : State) (f : Nibble → Nibble → Nibble) (r : Reg) (src : Src) (t : State) :
    s.logic f r src = .ok t ↔
      s.CanReadOperand r ∧ s.CanReadSrc src ∧ s.CanWriteOperand r ∧
      t = (((((s.afterOperand r).afterSrc src).latch (s.operand r) ((s.afterOperand r).srcValue src)).afterPut r
        (f (s.operand r) ((s.afterOperand r).srcValue src))).setZ
          (zeroFlag (f (s.operand r) ((s.afterOperand r).srcValue src)))).nextPC := by
  simp only [State.logic, Res.bind_ok, Res.pure_ok, State.regRead_ok, State.srcRead_ok, State.regWrite_ok,
    and_assoc, exists_and_left, exists_eq_left,
    State.afterOperand_CanReadSrc, State.latch_CanWriteOperand, State.afterSrc_CanWriteOperand,
    State.afterOperand_CanWriteOperand]

/-- Everything `compare` can do. -/
theorem State.compare_ok (s : State) (r : Reg) (src : Src) (t : State) :
    s.compare r src = .ok t ↔
      s.CanReadOperand r ∧ s.CanReadSrc src ∧
      t = ((((s.afterOperand r).afterSrc src).latch (s.operand r) ((s.afterOperand r).srcValue src)).setCZ
        (sub4 (s.operand r) ((s.afterOperand r).srcValue src) false false).c
        (sub4 (s.operand r) ((s.afterOperand r).srcValue src) false false).z).nextPC := by
  simp only [State.compare, Res.bind_ok, Res.pure_ok, State.regRead_ok, State.srcRead_ok,
    and_assoc, exists_and_left, exists_eq_left,
    State.afterOperand_CanReadSrc]

/-- Everything `testBits` can do. -/
theorem State.testBits_ok (s : State) (r : Reg) (src : Src) (t : State) :
    s.testBits r src = .ok t ↔
      s.CanReadOperand r ∧ s.CanReadSrc src ∧
      t = ((((s.afterOperand r).afterSrc src).latch (s.operand r) ((s.afterOperand r).srcValue src)).setZ
        (zeroFlag (s.operand r &&& (s.afterOperand r).srcValue src))).nextPC := by
  simp only [State.testBits, Res.bind_ok, Res.pure_ok, State.regRead_ok, State.srcRead_ok,
    and_assoc, exists_and_left, exists_eq_left,
    State.afterOperand_CanReadSrc]

/-- Everything `arithMem` can do. -/
theorem State.arithMem_ok (s : State) (f : Nibble → Nibble → AluOut) (addr : DataAddr) (r : Reg) (t : State) :
    s.arithMem f addr r = .ok t ↔
      s.CanRead addr ∧ s.CanReadOperand r ∧ s.CanWrite addr ∧
      t = ((((s.afterRead addr).afterOperand r).latch (s.readValue addr) ((s.afterRead addr).operand r)).afterWrite addr
        (f (s.readValue addr) ((s.afterRead addr).operand r)).out).setCZ
          (f (s.readValue addr) ((s.afterRead addr).operand r)).c
          (f (s.readValue addr) ((s.afterRead addr).operand r)).z := by
  simp only [State.arithMem, Res.bind_ok, Res.pure_ok, State.regRead_ok, State.memRead_ok, State.memWrite_ok,
    and_assoc, exists_and_left, exists_eq_left,
    State.afterRead_CanReadOperand, State.latch_CanWrite, State.afterOperand_CanWrite, State.afterRead_CanWrite]

/-- Everything `stepDirect` can do. -/
theorem State.stepDirect_ok (s : State) (f : Nibble → Nibble → AluOut) (n : Nibble) (t : State) :
    s.stepDirect f n = .ok t ↔
      s.CanRead (directAddr n) ∧ s.CanWrite (directAddr n) ∧
      t = ((((((s.loadRP n).afterRead (directAddr n)).latch (s.readValue (directAddr n)) 1).afterWrite (directAddr n)
        (f (s.readValue (directAddr n)) 1).out).setCZ (f (s.readValue (directAddr n)) 1).c
          (f (s.readValue (directAddr n)) 1).z)).nextPC := by
  simp only [State.stepDirect, Res.bind_ok, Res.pure_ok, State.memRead_ok, State.memWrite_ok,
    and_assoc, exists_and_left, exists_eq_left,
    State.loadRP_CanRead, State.latch_CanWrite, State.afterRead_CanWrite, State.loadRP_CanWrite,
    State.loadRP_readValue]

/-- Everything `move` can do. -/
theorem State.move_ok (s : State) (r q : Reg) (t : State) :
    s.move r q = .ok t ↔
      s.CanReadOperand q ∧ s.CanWriteOperand r ∧ t = (s.afterOperand q).afterPut r (s.operand q) := by
  simp only [State.move, Res.bind_ok, State.regRead_ok, State.regWrite_ok,
    and_assoc, exists_and_left, exists_eq_left,
    State.afterOperand_CanWriteOperand]

/-- Everything `storePair` can do. -/
theorem State.storePair_ok (s : State) (e : BitVec 8) (t : State) :
    s.storePair e = .ok t ↔
      s.CanWrite s.ix ∧ s.CanWrite s.ixNext ∧
      t = (s.afterWrite s.ix (e.extractLsb' 0 4)).afterWrite s.ixNext (e.extractLsb' 4 4) := by
  simp only [State.storePair, Res.bind_ok, State.memWrite_ok,
    and_assoc, exists_and_left, exists_eq_left,
    State.afterWrite_CanWrite, State.afterWrite_ixNext]

/-- Everything `loadPart` can do. -/
theorem State.loadPart_ok (s : State) (put : State → Nibble → State) (r : Reg) (t : State) :
    s.loadPart put r = .ok t ↔ s.CanReadOperand r ∧ t = (put (s.afterOperand r) (s.operand r)).nextPC := by
  simp only [State.loadPart, Res.bind_ok, Res.pure_ok, State.regRead_ok,
    and_assoc, exists_and_left, exists_eq_left]

/-- Everything `storePart` can do. -/
theorem State.storePart_ok (s : State) (v : Nibble) (r : Reg) (t : State) :
    s.storePart v r = .ok t ↔ s.CanWriteOperand r ∧ t = (s.afterPut r v).nextPC := by
  simp only [State.storePart, Res.bind_ok, Res.pure_ok, State.regWrite_ok,
    and_assoc, exists_and_left, exists_eq_left]

/-! ### The stack (R71, R72) and the interrupt (R312) -/

/-- Everything `push1` can do. -/
theorem State.push1_ok (s : State) (v : Nibble) (t : State) :
    s.push1 v = .ok t ↔
      s.CanWrite (stackAddr (s.sp - 1)) ∧ t = (s.setSP (s.sp - 1)).afterWrite (stackAddr (s.sp - 1)) v :=
  State.memWrite_ok _ _ _ _

/-- Everything `pop1` can do. -/
theorem State.pop1_ok (s : State) (p : Nibble × State) :
    s.pop1 = .ok p ↔
      s.CanRead (stackAddr s.sp) ∧
      p = (s.readValue (stackAddr s.sp), (s.afterRead (stackAddr s.sp)).setSP (s.sp + 1)) := by
  simp only [State.pop1, Res.bind_ok, Res.pure_ok, State.memRead_ok,
    and_assoc, exists_and_left, exists_eq_left, State.afterRead_sp]

/-- Everything `pushValue` can do. -/
theorem State.pushValue_ok (s : State) (v : Nibble) (t : State) :
    s.pushValue v = .ok t ↔
      s.CanWrite (stackAddr (s.sp - 1)) ∧
      t = ((s.setSP (s.sp - 1)).afterWrite (stackAddr (s.sp - 1)) v).nextPC := by
  simp only [State.pushValue, Res.bind_ok, Res.pure_ok, State.push1_ok,
    and_assoc, exists_and_left, exists_eq_left]

/-- Everything `popInto` can do. -/
theorem State.popInto_ok (s : State) (put : State → Nibble → State) (t : State) :
    s.popInto put = .ok t ↔
      s.CanRead (stackAddr s.sp) ∧
      t = (put ((s.afterRead (stackAddr s.sp)).setSP (s.sp + 1)) (s.readValue (stackAddr s.sp))).nextPC := by
  simp only [State.popInto, Res.bind_ok, Res.pure_ok, State.pop1_ok,
    and_assoc, exists_and_left, exists_eq_left]

/-- Everything `pushRet` can do. -/
theorem State.pushRet_ok (s : State) (ret : BitVec 12) (t : State) :
    s.pushRet ret = .ok t ↔
      s.CanPushReturn ∧
      t = (((s.afterWrite (stackAddr (s.sp - 1)) (ret.extractLsb' 8 4)).afterWrite (stackAddr (s.sp - 2))
        (ret.extractLsb' 4 4)).afterWrite (stackAddr (s.sp - 3)) (ret.extractLsb' 0 4)).setSP (s.sp - 3) := by
  simp only [State.pushRet, Res.bind_ok, Res.pure_ok, State.memWrite_ok, State.CanPushReturn,
    and_assoc, exists_and_left, exists_eq_left,
    State.afterWrite_CanWrite, State.afterWrite_sp]

/-- Everything `popRet` can do. -/
theorem State.popRet_ok (s : State) (p : BitVec 12 × State) :
    s.popRet = .ok p ↔
      s.CanPopReturn ∧
      p = (s.poppedReturn, (((s.afterRead (stackAddr s.sp)).afterRead (stackAddr (s.sp + 1))).afterRead
        (stackAddr (s.sp + 2))).setSP (s.sp + 3)) := by
  simp only [State.popRet, Res.bind_ok, Res.pure_ok, State.memRead_ok, State.CanPopReturn, State.poppedReturn,
    and_assoc, exists_and_left, exists_eq_left,
    State.afterRead_CanRead, State.afterRead_sp]

/-- Everything interrupt entry can do. -/
theorem State.interruptEntry_ok (s : State) (v : Fin 15) (t : State) :
    s.interruptEntry v = .ok t ↔
      s.CanPushReturn ∧ ∃ u, s.pushRet s.pc12 = .ok u ∧
      t = { u with fi := false, npp := 1, pcp := 1, pcs := vectorStep v, psetf := false, idelay := false,
                   runState := .run } := by
  simp only [State.interruptEntry, Res.bind_ok, State.pushRet_ok, Res.pure_ok]
  constructor
  · rintro ⟨u, ⟨h, hu⟩, rfl⟩; exact ⟨h, u, ⟨h, hu⟩, rfl⟩
  · rintro ⟨_, u, hu, rfl⟩; exact ⟨u, hu, rfl⟩

/-- Everything the return from the stack can do. -/
theorem State.returnFromStack_ok (s : State) (t : State) :
    s.returnFromStack = .ok t ↔
      s.CanPopReturn ∧
      t = ((((s.afterRead (stackAddr s.sp)).afterRead (stackAddr (s.sp + 1))).afterRead
        (stackAddr (s.sp + 2))).setSP (s.sp + 3)).setPC12 s.poppedReturn := by
  simp only [State.returnFromStack, Res.bind_ok, Res.pure_ok, State.popRet_ok,
    and_assoc, exists_and_left, exists_eq_left]

end Sys2Proof.Machine
end

