-- ==== Sys2Proof/Laws/Canonical.lean ====
section
/-!
SUPPORT. Every memory operation keeps the canonical form: the RAM words listed have rising addresses below 4,096, and
only addresses that are RAM are listed. A word that is not listed holds no value, so there is no entry equal to what
an unlisted address reads as. The program memory is written by no operation but `placeWord`.
-/

namespace Sys2Proof.Machine

/-- The form of the RAM of a device: the parts `ramForm` and `ramIsRam` of the invariant. -/
def RamForm (d : Device) (ram : Memory 4) : Prop :=
  ram.wf 4096 = true ∧ ∀ addr : DataAddr, (ram.lookup addr.toNat).isSome = true → kindAt d addr = .ram

/-- One write keeps the form. -/
theorem RamForm.afterWrite {s : State} (addr : DataAddr) (v : Nibble) (h : RamForm s.device s.ram) :
    RamForm (s.afterWrite addr v).device (s.afterWrite addr v).ram := by
  rw [State.afterWrite_device]
  unfold State.afterWrite
  split
  · rename_i hk
    refine ⟨Memory.wf_store _ _ (by omega) h.1, fun b hb => ?_⟩
    simp only [Memory.lookup_store] at hb
    split at hb
    · rename_i e
      rw [BitVec.eq_of_toNat_eq e]; exact hk
    · exact h.2 b hb
  · exact h

/-- Writing an operand keeps the form. -/
theorem RamForm.afterPut {s : State} (r : Reg) (v : Nibble) (h : RamForm s.device s.ram) :
    RamForm (s.afterPut r v).device (s.afterPut r v).ram := by
  cases r
  · exact h
  · exact h
  · exact RamForm.afterWrite _ _ h
  · exact RamForm.afterWrite _ _ h

/-- A read that answers keeps the form. -/
theorem RamForm.memRead {s : State} {addr : DataAddr} {p : Nibble × State} (hp : s.memRead addr = .ok p)
    (h : RamForm s.device s.ram) : RamForm p.2.device p.2.ram := by
  obtain ⟨-, rfl⟩ := (State.memRead_ok _ _ _).1 hp
  simpa using h

/-- A write that answers keeps the form. -/
theorem RamForm.memWrite {s t : State} {addr : DataAddr} {v : Nibble} (ht : s.memWrite addr v = .ok t)
    (h : RamForm s.device s.ram) : RamForm t.device t.ram := by
  obtain ⟨-, rfl⟩ := (State.memWrite_ok _ _ _ _).1 ht
  exact RamForm.afterWrite _ _ h

/-- Pushing a value keeps the form. -/
theorem RamForm.push1 {s t : State} {v : Nibble} (ht : s.push1 v = .ok t) (h : RamForm s.device s.ram) :
    RamForm t.device t.ram := by
  obtain ⟨-, rfl⟩ := (State.push1_ok _ _ _).1 ht
  simpa using RamForm.afterWrite (s := s.setSP (s.sp - 1)) (stackAddr (s.sp - 1)) v h

/-- Popping a value keeps the form. -/
theorem RamForm.pop1 {s : State} {p : Nibble × State} (hp : s.pop1 = .ok p) (h : RamForm s.device s.ram) :
    RamForm p.2.device p.2.ram := by
  obtain ⟨-, rfl⟩ := (State.pop1_ok _ _).1 hp
  simpa using h

/-- Pushing a return address keeps the form. -/
theorem RamForm.pushRet {s t : State} {ret : BitVec 12} (ht : s.pushRet ret = .ok t) (h : RamForm s.device s.ram) :
    RamForm t.device t.ram := by
  obtain ⟨-, rfl⟩ := (State.pushRet_ok _ _ _).1 ht
  have k := RamForm.afterWrite (stackAddr (s.sp - 1)) (ret.extractLsb' 8 4) h
  have k := RamForm.afterWrite (stackAddr (s.sp - 2)) (ret.extractLsb' 4 4) k
  simpa using RamForm.afterWrite (stackAddr (s.sp - 3)) (ret.extractLsb' 0 4) k

/-- Popping a return address keeps the form. -/
theorem RamForm.popRet {s : State} {p : BitVec 12 × State} (hp : s.popRet = .ok p) (h : RamForm s.device s.ram) :
    RamForm p.2.device p.2.ram := by
  obtain ⟨-, rfl⟩ := (State.popRet_ok _ _).1 hp
  simpa using h

/-- Storing two words keeps the form. -/
theorem RamForm.storePair {s t : State} {e : BitVec 8} (ht : s.storePair e = .ok t) (h : RamForm s.device s.ram) :
    RamForm t.device t.ram := by
  obtain ⟨-, -, rfl⟩ := (State.storePair_ok _ _ _).1 ht
  simpa using RamForm.afterWrite _ _ (RamForm.afterWrite _ _ h)

/-- Taking an interrupt keeps the form. -/
theorem RamForm.interruptEntry {s t : State} {v : Fin 15} (ht : s.interruptEntry v = .ok t)
    (h : RamForm s.device s.ram) : RamForm t.device t.ram := by
  obtain ⟨-, u, hu, rfl⟩ := (State.interruptEntry_ok _ _ _).1 ht
  have := RamForm.pushRet hu h
  exact this

/-- Reset keeps the form: nothing is listed. -/
theorem RamForm.doReset (s : State) : RamForm s.doReset.device s.doReset.ram :=
  ⟨rfl, fun _ h => by cases h⟩

/-- Placing a program word keeps the form of the program memory. -/
theorem State.placeWord_rom_wf (s : State) (w : InstrWord) (h : s.rom.wf 8192 = true) :
    (s.placeWord w).rom.wf 8192 = true :=
  Memory.wf_store _ _ (by omega) h

end Sys2Proof.Machine
end

