-- ==== Sys2Proof/Laws/Frames.lean ====
section
/-!
SUPPORT. How frames are put together: pieces compared through a third state, RAM words by the RAM they are read
from, and what writing an operand leaves alone.
-/

namespace Sys2Proof.Machine

/-- The same RAM, after the same resets, holds the same words. -/
theorem State.ramWord_congr {s t : State} (hram : t.ram = s.ram) (hres : t.resets = s.resets) (addr : DataAddr) :
    t.ramWord addr = s.ramWord addr := by
  simp [State.ramWord, hram, hres]

/-- A piece that stays the same twice stays the same. -/
theorem Piece.Same.trans {p : Piece} {s u t : State} (h : p.Same s u) (k : p.Same u t) : p.Same s t := by
  cases p <;> simp_all [Piece.Same]

/-- Writing an operand changes no piece but its register. -/
theorem State.afterPut_same (s : State) (r : Reg) (v : Nibble) {p : Piece} (h : p ∉ destPieces r) :
    p.Same s (s.afterPut r v) := by
  cases r <;> cases p <;> simp_all [destPieces, Piece.Same, State.afterPut]

/-- The RAM words of a state whose RAM is that of an operand write, away from the operand. -/
theorem State.ramWord_of_put {s t : State} {r : Reg} {v : Nibble} (hram : t.ram = (s.afterPut r v).ram)
    (hres : t.resets = s.resets) {addr : DataAddr} (h : addr ∉ s.operandAddrs r) : t.ramWord addr = s.ramWord addr := by
  rw [State.ramWord_congr hram (by simp [hres]), State.afterPut_ramWord_ne s r v h]

/-- A result that has reached its operand is still there in a state with the same A, B and RAM. -/
theorem State.OperandTook.congr {s t u : State} {r : Reg} {v : Nibble} (h : s.OperandTook u r v) (ha : t.a = u.a)
    (hb : t.b = u.b) (hram : t.ram = u.ram) (hres : t.resets = u.resets) : s.OperandTook t r v := by
  cases r <;> simp_all [State.OperandTook, State.ramWord_congr hram hres]

/-- The operand of a state is that of any state with the same IX, IY and device. -/
theorem State.OperandTook.source {s t u : State} {r : Reg} {v : Nibble} (h : u.OperandTook t r v)
    (hd : u.device = s.device) (hx : u.ix = s.ix) (hy : u.iy = s.iy) : s.OperandTook t r v := by
  cases r <;> simp_all [State.OperandTook]

/-- The frame of a step that makes some accesses, reaching `u`, and then writes one operand. -/
theorem Frame.of_put {s u t : State} {r : Reg} {v : Nibble} {pieces : List Piece} {accesses : List BusEvent}
    (hu : ∀ p, p ∉ pieces → p.Same s u) (hram : u.ram = s.ram) (hres : u.resets = s.resets)
    (hdev : u.device = s.device) (hix : u.ix = s.ix) (hiy : u.iy = s.iy) (hbus : u.bus = s.busAfter accesses)
    (hdest : ∀ p, p ∈ destPieces r → p ∈ pieces) (ht : ∀ p, p ∉ pieces → p.Same (u.afterPut r v) t)
    (htram : t.ram = (u.afterPut r v).ram) (htres : t.resets = u.resets) (htbus : t.bus = (u.afterPut r v).bus) :
    Frame pieces (s.operandAddrs r) (accesses ++ s.writes r v) s t := by
  have ha : u.operandAddrs r = s.operandAddrs r := by cases r <;> simp [State.operandAddrs, hix, hiy]
  have hw : u.writes r v = s.writes r v := by simp [State.writes, ha]
  refine ⟨fun p hp => (hu p hp).trans ((State.afterPut_same u r v fun h => hp (hdest p h)).trans (ht p hp)), ?_, ?_⟩
  · intro addr h
    rw [State.ramWord_of_put htram htres (by rwa [ha]), State.ramWord_congr hram hres]
  · rw [htbus, State.afterPut_bus_from r v hdev hbus, hw]

/-- The frame of a step that makes some accesses, reaching `u`, and then writes one address. -/
theorem Frame.of_write {s u t : State} {addr : DataAddr} {v : Nibble} {pieces : List Piece}
    {accesses : List BusEvent}
    (hu : ∀ p, p ∉ pieces → p.Same s u) (hram : u.ram = s.ram) (hres : u.resets = s.resets)
    (hdev : u.device = s.device) (hbus : u.bus = s.busAfter accesses)
    (ht : ∀ p, p ∉ pieces → p.Same (u.afterWrite addr v) t)
    (htram : t.ram = (u.afterWrite addr v).ram) (htres : t.resets = u.resets)
    (htbus : t.bus = (u.afterWrite addr v).bus) :
    Frame pieces [addr] (accesses ++ [.write addr v]) s t := by
  have hw : ∀ p : Piece, p.Same u (u.afterWrite addr v) := by intro p; cases p <;> simp [Piece.Same]
  refine ⟨fun p hp => (hu p hp).trans ((hw p).trans (ht p hp)), ?_, ?_⟩
  · intro b h
    rw [State.ramWord_congr htram (by simp [htres]), State.afterWrite_ramWord_ne u v (by simpa using h),
      State.ramWord_congr hram hres]
  · rw [htbus, State.afterWrite_bus_from addr v hdev hbus]

/-- The frame of a step that makes some reads and writes no memory. -/
theorem Frame.of_reads {s t : State} {pieces : List Piece} {accesses : List BusEvent}
    (hp : ∀ p, p ∉ pieces → p.Same s t) (hram : t.ram = s.ram) (hres : t.resets = s.resets)
    (hbus : t.bus = s.busAfter accesses) : Frame pieces [] accesses s t :=
  ⟨hp, fun addr _ => State.ramWord_congr hram hres addr, hbus⟩

end Sys2Proof.Machine
end

