-- ==== Sys2Proof/Laws/Control.lean ====
section
/-!
SUPPORT. The updates that depend on a bit of the state (a jump after PSET, I set with its delay, POP F), field by
field; the two orders of RETD; a return address pushed and popped; and what one step can be.
-/

namespace Sys2Proof.Machine

/-! ### jumpBankPage -/

@[simp] theorem State.jumpBankPage_a (s : State) (p : Bool) : (s.jumpBankPage p).a = s.a := by
  unfold State.jumpBankPage; split <;> rfl
@[simp] theorem State.jumpBankPage_b (s : State) (p : Bool) : (s.jumpBankPage p).b = s.b := by
  unfold State.jumpBankPage; split <;> rfl
@[simp] theorem State.jumpBankPage_xp (s : State) (p : Bool) : (s.jumpBankPage p).xp = s.xp := by
  unfold State.jumpBankPage; split <;> rfl
@[simp] theorem State.jumpBankPage_xh (s : State) (p : Bool) : (s.jumpBankPage p).xh = s.xh := by
  unfold State.jumpBankPage; split <;> rfl
@[simp] theorem State.jumpBankPage_xl (s : State) (p : Bool) : (s.jumpBankPage p).xl = s.xl := by
  unfold State.jumpBankPage; split <;> rfl
@[simp] theorem State.jumpBankPage_yp (s : State) (p : Bool) : (s.jumpBankPage p).yp = s.yp := by
  unfold State.jumpBankPage; split <;> rfl
@[simp] theorem State.jumpBankPage_yh (s : State) (p : Bool) : (s.jumpBankPage p).yh = s.yh := by
  unfold State.jumpBankPage; split <;> rfl
@[simp] theorem State.jumpBankPage_yl (s : State) (p : Bool) : (s.jumpBankPage p).yl = s.yl := by
  unfold State.jumpBankPage; split <;> rfl
@[simp] theorem State.jumpBankPage_sp (s : State) (p : Bool) : (s.jumpBankPage p).sp = s.sp := by
  unfold State.jumpBankPage; split <;> rfl
@[simp] theorem State.jumpBankPage_pcs (s : State) (p : Bool) : (s.jumpBankPage p).pcs = s.pcs := by
  unfold State.jumpBankPage; split <;> rfl
@[simp] theorem State.jumpBankPage_nbp (s : State) (p : Bool) : (s.jumpBankPage p).nbp = s.nbp := by
  unfold State.jumpBankPage; split <;> rfl
@[simp] theorem State.jumpBankPage_npp (s : State) (p : Bool) : (s.jumpBankPage p).npp = s.npp := by
  unfold State.jumpBankPage; split <;> rfl
@[simp] theorem State.jumpBankPage_fi (s : State) (p : Bool) : (s.jumpBankPage p).fi = s.fi := by
  unfold State.jumpBankPage; split <;> rfl
@[simp] theorem State.jumpBankPage_fd (s : State) (p : Bool) : (s.jumpBankPage p).fd = s.fd := by
  unfold State.jumpBankPage; split <;> rfl
@[simp] theorem State.jumpBankPage_fz (s : State) (p : Bool) : (s.jumpBankPage p).fz = s.fz := by
  unfold State.jumpBankPage; split <;> rfl
@[simp] theorem State.jumpBankPage_fc (s : State) (p : Bool) : (s.jumpBankPage p).fc = s.fc := by
  unfold State.jumpBankPage; split <;> rfl
@[simp] theorem State.jumpBankPage_rp (s : State) (p : Bool) : (s.jumpBankPage p).rp = s.rp := by
  unfold State.jumpBankPage; split <;> rfl
@[simp] theorem State.jumpBankPage_tempA (s : State) (p : Bool) : (s.jumpBankPage p).tempA = s.tempA := by
  unfold State.jumpBankPage; split <;> rfl
@[simp] theorem State.jumpBankPage_tempB (s : State) (p : Bool) : (s.jumpBankPage p).tempB = s.tempB := by
  unfold State.jumpBankPage; split <;> rfl
@[simp] theorem State.jumpBankPage_ram (s : State) (p : Bool) : (s.jumpBankPage p).ram = s.ram := by
  unfold State.jumpBankPage; split <;> rfl
@[simp] theorem State.jumpBankPage_rom (s : State) (p : Bool) : (s.jumpBankPage p).rom = s.rom := by
  unfold State.jumpBankPage; split <;> rfl
@[simp] theorem State.jumpBankPage_psetf (s : State) (p : Bool) : (s.jumpBankPage p).psetf = s.psetf := by
  unfold State.jumpBankPage; split <;> rfl
@[simp] theorem State.jumpBankPage_idelay (s : State) (p : Bool) : (s.jumpBankPage p).idelay = s.idelay := by
  unfold State.jumpBankPage; split <;> rfl
@[simp] theorem State.jumpBankPage_runState (s : State) (p : Bool) : (s.jumpBankPage p).runState = s.runState := by
  unfold State.jumpBankPage; split <;> rfl
@[simp] theorem State.jumpBankPage_device (s : State) (p : Bool) : (s.jumpBankPage p).device = s.device := by
  unfold State.jumpBankPage; split <;> rfl
@[simp] theorem State.jumpBankPage_inputs (s : State) (p : Bool) : (s.jumpBankPage p).inputs = s.inputs := by
  unfold State.jumpBankPage; split <;> rfl
@[simp] theorem State.jumpBankPage_bus (s : State) (p : Bool) : (s.jumpBankPage p).bus = s.bus := by
  unfold State.jumpBankPage; split <;> rfl
@[simp] theorem State.jumpBankPage_draws (s : State) (p : Bool) : (s.jumpBankPage p).draws = s.draws := by
  unfold State.jumpBankPage; split <;> rfl
@[simp] theorem State.jumpBankPage_resets (s : State) (p : Bool) : (s.jumpBankPage p).resets = s.resets := by
  unfold State.jumpBankPage; split <;> rfl

/-- The bank of a taken jump. -/
theorem State.jumpBankPage_pcb (s : State) (p : Bool) : (s.jumpBankPage p).pcb = if p = true then s.nbp else s.pcb := by
  cases p <;> rfl

/-- The page of a taken jump. -/
theorem State.jumpBankPage_pcp (s : State) (p : Bool) : (s.jumpBankPage p).pcp = if p = true then s.npp else s.pcp := by
  cases p <;> rfl

/-! ### callPage -/

@[simp] theorem State.callPage_a (s : State) (p : Bool) : (s.callPage p).a = s.a := by
  unfold State.callPage; split <;> rfl
@[simp] theorem State.callPage_b (s : State) (p : Bool) : (s.callPage p).b = s.b := by
  unfold State.callPage; split <;> rfl
@[simp] theorem State.callPage_xp (s : State) (p : Bool) : (s.callPage p).xp = s.xp := by
  unfold State.callPage; split <;> rfl
@[simp] theorem State.callPage_xh (s : State) (p : Bool) : (s.callPage p).xh = s.xh := by
  unfold State.callPage; split <;> rfl
@[simp] theorem State.callPage_xl (s : State) (p : Bool) : (s.callPage p).xl = s.xl := by
  unfold State.callPage; split <;> rfl
@[simp] theorem State.callPage_yp (s : State) (p : Bool) : (s.callPage p).yp = s.yp := by
  unfold State.callPage; split <;> rfl
@[simp] theorem State.callPage_yh (s : State) (p : Bool) : (s.callPage p).yh = s.yh := by
  unfold State.callPage; split <;> rfl
@[simp] theorem State.callPage_yl (s : State) (p : Bool) : (s.callPage p).yl = s.yl := by
  unfold State.callPage; split <;> rfl
@[simp] theorem State.callPage_sp (s : State) (p : Bool) : (s.callPage p).sp = s.sp := by
  unfold State.callPage; split <;> rfl
@[simp] theorem State.callPage_pcb (s : State) (p : Bool) : (s.callPage p).pcb = s.pcb := by
  unfold State.callPage; split <;> rfl
@[simp] theorem State.callPage_pcs (s : State) (p : Bool) : (s.callPage p).pcs = s.pcs := by
  unfold State.callPage; split <;> rfl
@[simp] theorem State.callPage_nbp (s : State) (p : Bool) : (s.callPage p).nbp = s.nbp := by
  unfold State.callPage; split <;> rfl
@[simp] theorem State.callPage_npp (s : State) (p : Bool) : (s.callPage p).npp = s.npp := by
  unfold State.callPage; split <;> rfl
@[simp] theorem State.callPage_fi (s : State) (p : Bool) : (s.callPage p).fi = s.fi := by
  unfold State.callPage; split <;> rfl
@[simp] theorem State.callPage_fd (s : State) (p : Bool) : (s.callPage p).fd = s.fd := by
  unfold State.callPage; split <;> rfl
@[simp] theorem State.callPage_fz (s : State) (p : Bool) : (s.callPage p).fz = s.fz := by
  unfold State.callPage; split <;> rfl
@[simp] theorem State.callPage_fc (s : State) (p : Bool) : (s.callPage p).fc = s.fc := by
  unfold State.callPage; split <;> rfl
@[simp] theorem State.callPage_rp (s : State) (p : Bool) : (s.callPage p).rp = s.rp := by
  unfold State.callPage; split <;> rfl
@[simp] theorem State.callPage_tempA (s : State) (p : Bool) : (s.callPage p).tempA = s.tempA := by
  unfold State.callPage; split <;> rfl
@[simp] theorem State.callPage_tempB (s : State) (p : Bool) : (s.callPage p).tempB = s.tempB := by
  unfold State.callPage; split <;> rfl
@[simp] theorem State.callPage_ram (s : State) (p : Bool) : (s.callPage p).ram = s.ram := by
  unfold State.callPage; split <;> rfl
@[simp] theorem State.callPage_rom (s : State) (p : Bool) : (s.callPage p).rom = s.rom := by
  unfold State.callPage; split <;> rfl
@[simp] theorem State.callPage_psetf (s : State) (p : Bool) : (s.callPage p).psetf = s.psetf := by
  unfold State.callPage; split <;> rfl
@[simp] theorem State.callPage_idelay (s : State) (p : Bool) : (s.callPage p).idelay = s.idelay := by
  unfold State.callPage; split <;> rfl
@[simp] theorem State.callPage_runState (s : State) (p : Bool) : (s.callPage p).runState = s.runState := by
  unfold State.callPage; split <;> rfl
@[simp] theorem State.callPage_device (s : State) (p : Bool) : (s.callPage p).device = s.device := by
  unfold State.callPage; split <;> rfl
@[simp] theorem State.callPage_inputs (s : State) (p : Bool) : (s.callPage p).inputs = s.inputs := by
  unfold State.callPage; split <;> rfl
@[simp] theorem State.callPage_bus (s : State) (p : Bool) : (s.callPage p).bus = s.bus := by
  unfold State.callPage; split <;> rfl
@[simp] theorem State.callPage_draws (s : State) (p : Bool) : (s.callPage p).draws = s.draws := by
  unfold State.callPage; split <;> rfl
@[simp] theorem State.callPage_resets (s : State) (p : Bool) : (s.callPage p).resets = s.resets := by
  unfold State.callPage; split <;> rfl

/-- The page of a call. -/
theorem State.callPage_pcp (s : State) (p : Bool) : (s.callPage p).pcp = if p = true then s.npp else s.pcp := by
  cases p <;> rfl

/-! ### setInterruptFlag -/

@[simp] theorem State.setInterruptFlag_a (s : State) : (s.setInterruptFlag).a = s.a := by
  unfold State.setInterruptFlag; split <;> rfl
@[simp] theorem State.setInterruptFlag_b (s : State) : (s.setInterruptFlag).b = s.b := by
  unfold State.setInterruptFlag; split <;> rfl
@[simp] theorem State.setInterruptFlag_xp (s : State) : (s.setInterruptFlag).xp = s.xp := by
  unfold State.setInterruptFlag; split <;> rfl
@[simp] theorem State.setInterruptFlag_xh (s : State) : (s.setInterruptFlag).xh = s.xh := by
  unfold State.setInterruptFlag; split <;> rfl
@[simp] theorem State.setInterruptFlag_xl (s : State) : (s.setInterruptFlag).xl = s.xl := by
  unfold State.setInterruptFlag; split <;> rfl
@[simp] theorem State.setInterruptFlag_yp (s : State) : (s.setInterruptFlag).yp = s.yp := by
  unfold State.setInterruptFlag; split <;> rfl
@[simp] theorem State.setInterruptFlag_yh (s : State) : (s.setInterruptFlag).yh = s.yh := by
  unfold State.setInterruptFlag; split <;> rfl
@[simp] theorem State.setInterruptFlag_yl (s : State) : (s.setInterruptFlag).yl = s.yl := by
  unfold State.setInterruptFlag; split <;> rfl
@[simp] theorem State.setInterruptFlag_sp (s : State) : (s.setInterruptFlag).sp = s.sp := by
  unfold State.setInterruptFlag; split <;> rfl
@[simp] theorem State.setInterruptFlag_pcb (s : State) : (s.setInterruptFlag).pcb = s.pcb := by
  unfold State.setInterruptFlag; split <;> rfl
@[simp] theorem State.setInterruptFlag_pcp (s : State) : (s.setInterruptFlag).pcp = s.pcp := by
  unfold State.setInterruptFlag; split <;> rfl
@[simp] theorem State.setInterruptFlag_pcs (s : State) : (s.setInterruptFlag).pcs = s.pcs := by
  unfold State.setInterruptFlag; split <;> rfl
@[simp] theorem State.setInterruptFlag_nbp (s : State) : (s.setInterruptFlag).nbp = s.nbp := by
  unfold State.setInterruptFlag; split <;> rfl
@[simp] theorem State.setInterruptFlag_npp (s : State) : (s.setInterruptFlag).npp = s.npp := by
  unfold State.setInterruptFlag; split <;> rfl
@[simp] theorem State.setInterruptFlag_fd (s : State) : (s.setInterruptFlag).fd = s.fd := by
  unfold State.setInterruptFlag; split <;> rfl
@[simp] theorem State.setInterruptFlag_fz (s : State) : (s.setInterruptFlag).fz = s.fz := by
  unfold State.setInterruptFlag; split <;> rfl
@[simp] theorem State.setInterruptFlag_fc (s : State) : (s.setInterruptFlag).fc = s.fc := by
  unfold State.setInterruptFlag; split <;> rfl
@[simp] theorem State.setInterruptFlag_rp (s : State) : (s.setInterruptFlag).rp = s.rp := by
  unfold State.setInterruptFlag; split <;> rfl
@[simp] theorem State.setInterruptFlag_tempA (s : State) : (s.setInterruptFlag).tempA = s.tempA := by
  unfold State.setInterruptFlag; split <;> rfl
@[simp] theorem State.setInterruptFlag_tempB (s : State) : (s.setInterruptFlag).tempB = s.tempB := by
  unfold State.setInterruptFlag; split <;> rfl
@[simp] theorem State.setInterruptFlag_ram (s : State) : (s.setInterruptFlag).ram = s.ram := by
  unfold State.setInterruptFlag; split <;> rfl
@[simp] theorem State.setInterruptFlag_rom (s : State) : (s.setInterruptFlag).rom = s.rom := by
  unfold State.setInterruptFlag; split <;> rfl
@[simp] theorem State.setInterruptFlag_psetf (s : State) : (s.setInterruptFlag).psetf = s.psetf := by
  unfold State.setInterruptFlag; split <;> rfl
@[simp] theorem State.setInterruptFlag_runState (s : State) : (s.setInterruptFlag).runState = s.runState := by
  unfold State.setInterruptFlag; split <;> rfl
@[simp] theorem State.setInterruptFlag_device (s : State) : (s.setInterruptFlag).device = s.device := by
  unfold State.setInterruptFlag; split <;> rfl
@[simp] theorem State.setInterruptFlag_inputs (s : State) : (s.setInterruptFlag).inputs = s.inputs := by
  unfold State.setInterruptFlag; split <;> rfl
@[simp] theorem State.setInterruptFlag_bus (s : State) : (s.setInterruptFlag).bus = s.bus := by
  unfold State.setInterruptFlag; split <;> rfl
@[simp] theorem State.setInterruptFlag_resets (s : State) : (s.setInterruptFlag).resets = s.resets := by
  unfold State.setInterruptFlag; split <;> rfl

/-- I is set. -/
@[simp] theorem State.setInterruptFlag_fi (s : State) : s.setInterruptFlag.fi = true := by
  unfold State.setInterruptFlag; split <;> simp_all

/-- IDELAY is set when I was 0, and free when I was 1. -/
theorem State.setInterruptFlag_idelay (s : State) :
    s.setInterruptFlag.idelay = if s.fi = true then Config.idelayOther s.draws else true := by
  unfold State.setInterruptFlag; split <;> rfl

/-! ### popFlags -/

@[simp] theorem State.popFlags_a (s : State) (v : Nibble) : (s.popFlags v).a = s.a := by
  unfold State.popFlags; split <;> rfl
@[simp] theorem State.popFlags_b (s : State) (v : Nibble) : (s.popFlags v).b = s.b := by
  unfold State.popFlags; split <;> rfl
@[simp] theorem State.popFlags_xp (s : State) (v : Nibble) : (s.popFlags v).xp = s.xp := by
  unfold State.popFlags; split <;> rfl
@[simp] theorem State.popFlags_xh (s : State) (v : Nibble) : (s.popFlags v).xh = s.xh := by
  unfold State.popFlags; split <;> rfl
@[simp] theorem State.popFlags_xl (s : State) (v : Nibble) : (s.popFlags v).xl = s.xl := by
  unfold State.popFlags; split <;> rfl
@[simp] theorem State.popFlags_yp (s : State) (v : Nibble) : (s.popFlags v).yp = s.yp := by
  unfold State.popFlags; split <;> rfl
@[simp] theorem State.popFlags_yh (s : State) (v : Nibble) : (s.popFlags v).yh = s.yh := by
  unfold State.popFlags; split <;> rfl
@[simp] theorem State.popFlags_yl (s : State) (v : Nibble) : (s.popFlags v).yl = s.yl := by
  unfold State.popFlags; split <;> rfl
@[simp] theorem State.popFlags_sp (s : State) (v : Nibble) : (s.popFlags v).sp = s.sp := by
  unfold State.popFlags; split <;> rfl
@[simp] theorem State.popFlags_pcb (s : State) (v : Nibble) : (s.popFlags v).pcb = s.pcb := by
  unfold State.popFlags; split <;> rfl
@[simp] theorem State.popFlags_pcp (s : State) (v : Nibble) : (s.popFlags v).pcp = s.pcp := by
  unfold State.popFlags; split <;> rfl
@[simp] theorem State.popFlags_pcs (s : State) (v : Nibble) : (s.popFlags v).pcs = s.pcs := by
  unfold State.popFlags; split <;> rfl
@[simp] theorem State.popFlags_nbp (s : State) (v : Nibble) : (s.popFlags v).nbp = s.nbp := by
  unfold State.popFlags; split <;> rfl
@[simp] theorem State.popFlags_npp (s : State) (v : Nibble) : (s.popFlags v).npp = s.npp := by
  unfold State.popFlags; split <;> rfl
@[simp] theorem State.popFlags_rp (s : State) (v : Nibble) : (s.popFlags v).rp = s.rp := by
  unfold State.popFlags; split <;> rfl
@[simp] theorem State.popFlags_tempA (s : State) (v : Nibble) : (s.popFlags v).tempA = s.tempA := by
  unfold State.popFlags; split <;> rfl
@[simp] theorem State.popFlags_tempB (s : State) (v : Nibble) : (s.popFlags v).tempB = s.tempB := by
  unfold State.popFlags; split <;> rfl
@[simp] theorem State.popFlags_ram (s : State) (v : Nibble) : (s.popFlags v).ram = s.ram := by
  unfold State.popFlags; split <;> rfl
@[simp] theorem State.popFlags_rom (s : State) (v : Nibble) : (s.popFlags v).rom = s.rom := by
  unfold State.popFlags; split <;> rfl
@[simp] theorem State.popFlags_psetf (s : State) (v : Nibble) : (s.popFlags v).psetf = s.psetf := by
  unfold State.popFlags; split <;> rfl
@[simp] theorem State.popFlags_runState (s : State) (v : Nibble) : (s.popFlags v).runState = s.runState := by
  unfold State.popFlags; split <;> rfl
@[simp] theorem State.popFlags_device (s : State) (v : Nibble) : (s.popFlags v).device = s.device := by
  unfold State.popFlags; split <;> rfl
@[simp] theorem State.popFlags_inputs (s : State) (v : Nibble) : (s.popFlags v).inputs = s.inputs := by
  unfold State.popFlags; split <;> rfl
@[simp] theorem State.popFlags_bus (s : State) (v : Nibble) : (s.popFlags v).bus = s.bus := by
  unfold State.popFlags; split <;> rfl
@[simp] theorem State.popFlags_resets (s : State) (v : Nibble) : (s.popFlags v).resets = s.resets := by
  unfold State.popFlags; split <;> rfl

/-- The four flags are the four bits. -/
@[simp] theorem State.popFlags_fi (s : State) (v : Nibble) : (s.popFlags v).fi = v.getLsbD 3 := by
  unfold State.popFlags; split <;> rfl
@[simp] theorem State.popFlags_fd (s : State) (v : Nibble) : (s.popFlags v).fd = v.getLsbD 2 := by
  unfold State.popFlags; split <;> rfl
@[simp] theorem State.popFlags_fz (s : State) (v : Nibble) : (s.popFlags v).fz = v.getLsbD 1 := by
  unfold State.popFlags; split <;> rfl
@[simp] theorem State.popFlags_fc (s : State) (v : Nibble) : (s.popFlags v).fc = v.getLsbD 0 := by
  unfold State.popFlags; split <;> rfl

/-- IDELAY is free when POP F turns I on, unchanged otherwise. -/
theorem State.popFlags_idelay (s : State) (v : Nibble) :
    (s.popFlags v).idelay = if s.fi = false ∧ v.getLsbD 3 = true then Config.idelayOther s.draws else s.idelay := by
  unfold State.popFlags; split <;> rfl

/-! ### Second operands, and records of accesses -/

@[simp] theorem State.begun_srcValue (s : State) (q : Src) : s.begun.srcValue q = s.srcValue q := by
  cases q <;> simp [State.srcValue]
@[simp] theorem State.begun_afterSrc (s : State) (q : Src) : s.begun.afterSrc q = (s.afterSrc q).begun := by
  cases q <;> simp [State.afterSrc]
@[simp] theorem State.afterSrc_ix (s : State) (q : Src) : (s.afterSrc q).ix = s.ix := by
  cases q <;> simp [State.afterSrc]
@[simp] theorem State.afterSrc_iy (s : State) (q : Src) : (s.afterSrc q).iy = s.iy := by
  cases q <;> simp [State.afterSrc]

/-- More accesses after some accesses. -/
theorem State.busAfter_append {s t : State} {l : List BusEvent} (m : List BusEvent) (hd : t.device = s.device)
    (hb : t.bus = s.busAfter l) : t.busAfter m = s.busAfter (l ++ m) := by
  simp [State.busAfter, hd, hb]

/-- A frame whose last state is changed further in some pieces. -/
theorem Frame.more {P Q : List Piece} {stored : List DataAddr} {accesses : List BusEvent} {s t u : State}
    (h : Frame P stored accesses s t) (hpq : ∀ p ∈ P, p ∈ Q) (hq : ∀ p, p ∉ Q → p.Same t u) (hram : u.ram = t.ram)
    (hres : u.resets = t.resets) (hbus : u.bus = t.bus) : Frame Q stored accesses s u :=
  ⟨fun p hp => (h.1 p fun e => hp (hpq p e)).trans (hq p hp),
    fun a ha => (State.ramWord_congr hram hres a).trans (h.2.1 a ha), hbus.trans h.2.2⟩

/-! ### Return addresses -/

/-- What a pushed return address leaves, in any state that then differs from it in other pieces. -/
theorem PushedReturn.of_pushRet {s s0 u t : State} {ret : BitVec 12} {pieces : List Piece}
    (hu : s0.pushRet ret = .ok u) (hp : ∀ p, p ∉ pieces → p.Same s t) (hsp0 : s0.sp = s.sp)
    (hdev0 : s0.device = s.device) (hram0 : s0.ram = s.ram) (hres0 : s0.resets = s.resets) (hbus0 : s0.bus = s.bus)
    (hram : t.ram = u.ram) (hres : t.resets = u.resets) (hbus : t.bus = u.bus) (hsp : t.sp = u.sp) :
    PushedReturn s t ret pieces := by
  rw [State.pushRet_ok] at hu
  obtain ⟨_, rfl⟩ := hu
  have hr := State.ramWord_congr hram hres
  have hs := State.ramWord_congr hram0 hres0
  have e12 : ¬ (s.sp - 1#8 = s.sp - 2#8) := by bv_omega
  have e13 : ¬ (s.sp - 1#8 = s.sp - 3#8) := by bv_omega
  have e23 : ¬ (s.sp - 2#8 = s.sp - 3#8) := by bv_omega
  refine ⟨by simp [hsp, hsp0], fun hk => ?_, fun hk => ?_, fun hk => ?_, hp, fun a ha => ?_, ?_⟩
  · simp only [BitVec.ofNat_eq_ofNat] at hk
    rw [hr]; simp [State.afterWrite_ramWord, hsp0, hdev0, hk, e12, e13]
  · simp only [BitVec.ofNat_eq_ofNat] at hk
    rw [hr]; simp [State.afterWrite_ramWord, hsp0, hdev0, hk, e23]
  · simp only [BitVec.ofNat_eq_ofNat] at hk
    rw [hr]; simp [State.afterWrite_ramWord, hsp0, hdev0, hk]
  · simp only [List.mem_cons, not_or] at ha
    rw [hr]; simp_all [State.afterWrite_ramWord]
  · rw [hbus]
    have k := State.afterWrite_bus_from (l := []) (stackAddr (s.sp - 1)) (ret.extractLsb' 8 4) hdev0 hbus0
    have k := State.afterWrite_bus_from (stackAddr (s.sp - 2)) (ret.extractLsb' 4 4) (by simp [hdev0]) k
    have k := State.afterWrite_bus_from (stackAddr (s.sp - 3)) (ret.extractLsb' 0 4) (by simp [hdev0]) k
    simpa [hsp0] using k

/-- The three words of a popped return address. -/
theorem State.poppedReturn_words (x y z : Nibble) :
    (x ++ y ++ z).extractLsb' 0 4 = z ∧ (x ++ y ++ z).extractLsb' 4 4 = y ∧ (x ++ y ++ z).extractLsb' 8 4 = x := by
  revert x y z; decide

/-- The record of accesses after the three reads of a return. -/
theorem State.returnReads_bus (s : State) :
    (((s.afterRead (stackAddr s.sp)).afterRead (stackAddr (s.sp + 1))).afterRead (stackAddr (s.sp + 2))).bus =
      s.busAfter s.returnReads := by
  have k := State.afterRead_bus s (stackAddr s.sp)
  have k := State.afterRead_bus_from (stackAddr (s.sp + 1)) (by simp) k
  have k := State.afterRead_bus_from (stackAddr (s.sp + 2)) (by simp) k
  rw [k]
  simp only [State.returnReads, State.poppedReturn, (State.poppedReturn_words _ _ _).1,
    (State.poppedReturn_words _ _ _).2.1, (State.poppedReturn_words _ _ _).2.2, List.cons_append, List.nil_append]

/-! ### RETD (R131) -/

@[simp] theorem State.afterWrite_CanPopReturn (s : State) (addr : DataAddr) (v : Nibble) :
    (s.afterWrite addr v).CanPopReturn ↔ s.CanPopReturn := by simp [State.CanPopReturn]

/-- Everything the first order of RETD can do. -/
theorem State.retdPopThenStore_ok (s : State) (e : BitVec 8) (t : State) :
    s.retdPopThenStore e = .ok t ↔
      s.CanPopReturn ∧ s.CanWrite s.ix ∧ s.CanWrite s.ixNext ∧
      ∃ p u, s.popRet = .ok p ∧ p.2.storePair e = .ok u ∧ t = (u.bumpX 2).setPC12 p.1 := by
  unfold State.retdPopThenStore
  simp only [Res.bind_ok, Res.pure_ok]
  constructor
  · rintro ⟨p, hp, u, hu, rfl⟩
    obtain ⟨h1, rfl⟩ := (State.popRet_ok _ _).1 hp
    obtain ⟨h2, h3, _⟩ := (State.storePair_ok _ _ _).1 hu
    exact ⟨h1, by simpa using h2, by simpa using h3, _, u, hp, hu, rfl⟩
  · rintro ⟨_, _, _, p, u, hp, hu, rfl⟩
    exact ⟨p, hp, u, hu, rfl⟩

/-- Everything the second order of RETD can do. -/
theorem State.retdStoreThenPop_ok (s : State) (e : BitVec 8) (t : State) :
    s.retdStoreThenPop e = .ok t ↔
      s.CanPopReturn ∧ s.CanWrite s.ix ∧ s.CanWrite s.ixNext ∧
      ∃ u p, s.storePair e = .ok u ∧ u.popRet = .ok p ∧ t = (p.2.bumpX 2).setPC12 p.1 := by
  unfold State.retdStoreThenPop
  simp only [Res.bind_ok, Res.pure_ok]
  constructor
  · rintro ⟨u, hu, p, hp, rfl⟩
    obtain ⟨h2, h3, rfl⟩ := (State.storePair_ok _ _ _).1 hu
    obtain ⟨h1, _⟩ := (State.popRet_ok _ _).1 hp
    exact ⟨by simpa using h1, h2, h3, _, p, hu, hp, rfl⟩
  · rintro ⟨_, _, _, u, p, hu, hp, rfl⟩
    exact ⟨u, hu, p, hp, rfl⟩

/-! ### One step (R45) -/

/-- A boundary with no reset and no accepted request goes straight to `proceed`. -/
theorem step_quiet {s : State} (hr : s.nextInput.reset = false)
    (hi : s.nextInput.irq = none ∨ s.acceptsInterrupt = false) : step s = s.atBoundary.proceed := by
  unfold step State.oneStep
  rw [if_neg (by simp [hr])]
  split
  · rfl
  · rw [if_neg (by simp_all)]

/-- A running state executes what it fetches. -/
theorem State.proceed_run {s : State} {i : Instr} (hrun : s.runState = .run) (hf : s.fetch = .ok i) :
    s.proceed = exec i s := by
  unfold State.proceed
  simp only [hrun, hf]

/-- A running state stops where its fetch does. -/
theorem State.proceed_stop {s : State} {f : Fault} (hrun : s.runState = .run) (hf : s.fetch = .error f) :
    s.proceed = .fault f := by
  unfold State.proceed
  simp only [hrun, hf]

/-- Everything a step that answers can be: a reset, an interrupt entry, nothing in HALT or SLEEP, an instruction. -/
theorem step_cases {s t : State} (h : step s = .next t) :
    (s.nextInput.reset = true ∧ t = s.atBoundary.doReset) ∨
    (s.nextInput.reset = false ∧
      ((∃ v, s.nextInput.irq = some v ∧ s.acceptsInterrupt = true ∧ s.atBoundary.interruptEntry v = .ok t) ∨
       ((s.nextInput.irq = none ∨ s.acceptsInterrupt = false) ∧
        ((s.runState ≠ .run ∧ t = s.atBoundary) ∨
         (s.runState = .run ∧ ∃ i, s.atBoundary.fetch = .ok i ∧ exec i s.atBoundary = .next t))))) := by
  have hp : s.atBoundary.proceed = .next t →
      (s.runState ≠ .run ∧ t = s.atBoundary) ∨
      (s.runState = .run ∧ ∃ i, s.atBoundary.fetch = .ok i ∧ exec i s.atBoundary = .next t) := by
    have hb : s.atBoundary.runState = s.runState := rfl
    unfold State.proceed
    intro k
    split at k
    · left; cases k; simp_all
    · left; cases k; simp_all
    · split at k
      · cases k
      · right; exact ⟨by simp_all, _, by assumption, k⟩
  unfold step State.oneStep at h
  split at h
  · left; exact ⟨by assumption, by cases h; rfl⟩
  · right
    refine ⟨by simp_all, ?_⟩
    split at h
    · right; exact ⟨.inl (by assumption), hp h⟩
    · split at h
      · left; exact ⟨_, by assumption, by assumption, (finish_next _ _).1 h⟩
      · right; exact ⟨.inr (by simp_all), hp h⟩

end Sys2Proof.Machine
end

