-- ==== Sys2Proof/Laws/PerInstr.lean ====
section
/-!
SUPPORT. One law per instruction: its word, whatever its operands, has the fixed bits of its row of the opcode map
(spec/30_encoding.md R100), written here a third time as the row's mask and match value.
-/

namespace Sys2Proof.Laws

/-- The mask of the fixed bits of an instruction's row, and their values. -/
def RowMatch.row : Instr → InstrWord × InstrWord
  | .jp _ => (0xF00, 0x000)
  | .retd _ => (0xF00, 0x100)
  | .jpC _ => (0xF00, 0x200)
  | .jpNC _ => (0xF00, 0x300)
  | .call _ => (0xF00, 0x400)
  | .calz _ => (0xF00, 0x500)
  | .jpZ _ => (0xF00, 0x600)
  | .jpNZ _ => (0xF00, 0x700)
  | .ldYE _ => (0xF00, 0x800)
  | .lbpxMXE _ => (0xF00, 0x900)
  | .adcXHI _ => (0xFF0, 0xA00)
  | .adcXLI _ => (0xFF0, 0xA10)
  | .adcYHI _ => (0xFF0, 0xA20)
  | .adcYLI _ => (0xFF0, 0xA30)
  | .cpXHI _ => (0xFF0, 0xA40)
  | .cpXLI _ => (0xFF0, 0xA50)
  | .cpYHI _ => (0xFF0, 0xA60)
  | .cpYLI _ => (0xFF0, 0xA70)
  | .addRQ _ _ => (0xFF0, 0xA80)
  | .adcRQ _ _ => (0xFF0, 0xA90)
  | .subRQ _ _ => (0xFF0, 0xAA0)
  | .sbcRQ _ _ => (0xFF0, 0xAB0)
  | .andRQ _ _ => (0xFF0, 0xAC0)
  | .orRQ _ _ => (0xFF0, 0xAD0)
  | .xorRQ _ _ => (0xFF0, 0xAE0)
  | .rlcR _ => (0xFF0, 0xAF0)
  | .ldXE _ => (0xF00, 0xB00)
  | .addRI _ _ => (0xFC0, 0xC00)
  | .adcRI _ _ => (0xFC0, 0xC40)
  | .andRI _ _ => (0xFC0, 0xC80)
  | .orRI _ _ => (0xFC0, 0xCC0)
  | .xorRI _ _ => (0xFC0, 0xD00)
  | .notR _ => (0xFCF, 0xD0F)
  | .sbcRI _ _ => (0xFC0, 0xD40)
  | .fanRI _ _ => (0xFC0, 0xD80)
  | .cpRI _ _ => (0xFC0, 0xDC0)
  | .ldRI _ _ => (0xFC0, 0xE00)
  | .pset _ => (0xFE0, 0xE40)
  | .ldpxMXI _ => (0xFF0, 0xE60)
  | .ldpyMYI _ => (0xFF0, 0xE70)
  | .ldXPR _ => (0xFFC, 0xE80)
  | .ldXHR _ => (0xFFC, 0xE84)
  | .ldXLR _ => (0xFFC, 0xE88)
  | .rrcR _ => (0xFFC, 0xE8C)
  | .ldYPR _ => (0xFFC, 0xE90)
  | .ldYHR _ => (0xFFC, 0xE94)
  | .ldYLR _ => (0xFFC, 0xE98)
  | .ldRXP _ => (0xFFC, 0xEA0)
  | .ldRXH _ => (0xFFC, 0xEA4)
  | .ldRXL _ => (0xFFC, 0xEA8)
  | .ldRYP _ => (0xFFC, 0xEB0)
  | .ldRYH _ => (0xFFC, 0xEB4)
  | .ldRYL _ => (0xFFC, 0xEB8)
  | .ldRQ _ _ => (0xFF0, 0xEC0)
  | .ldpxRQ _ _ => (0xFF0, 0xEE0)
  | .incX => (0xFFF, 0xEE0)
  | .ldpyRQ _ _ => (0xFF0, 0xEF0)
  | .incY => (0xFFF, 0xEF0)
  | .cpRQ _ _ => (0xFF0, 0xF00)
  | .fanRQ _ _ => (0xFF0, 0xF10)
  | .acpxMXR _ => (0xFFC, 0xF28)
  | .acpyMYR _ => (0xFFC, 0xF2C)
  | .scpxMXR _ => (0xFFC, 0xF38)
  | .scpyMYR _ => (0xFFC, 0xF3C)
  | .setF _ => (0xFF0, 0xF40)
  | .scf => (0xFFF, 0xF41)
  | .szf => (0xFFF, 0xF42)
  | .sdf => (0xFFF, 0xF44)
  | .ei => (0xFFF, 0xF48)
  | .rstF _ => (0xFF0, 0xF50)
  | .di => (0xFFF, 0xF57)
  | .rdf => (0xFFF, 0xF5B)
  | .rzf => (0xFFF, 0xF5D)
  | .rcf => (0xFFF, 0xF5E)
  | .incMn _ => (0xFF0, 0xF60)
  | .decMn _ => (0xFF0, 0xF70)
  | .ldMnA _ => (0xFF0, 0xF80)
  | .ldMnB _ => (0xFF0, 0xF90)
  | .ldAMn _ => (0xFF0, 0xFA0)
  | .ldBMn _ => (0xFF0, 0xFB0)
  | .pushR _ => (0xFFC, 0xFC0)
  | .pushXP => (0xFFF, 0xFC4)
  | .pushXH => (0xFFF, 0xFC5)
  | .pushXL => (0xFFF, 0xFC6)
  | .pushYP => (0xFFF, 0xFC7)
  | .pushYH => (0xFFF, 0xFC8)
  | .pushYL => (0xFFF, 0xFC9)
  | .pushF => (0xFFF, 0xFCA)
  | .decSP => (0xFFF, 0xFCB)
  | .popR _ => (0xFFC, 0xFD0)
  | .popXP => (0xFFF, 0xFD4)
  | .popXH => (0xFFF, 0xFD5)
  | .popXL => (0xFFF, 0xFD6)
  | .popYP => (0xFFF, 0xFD7)
  | .popYH => (0xFFF, 0xFD8)
  | .popYL => (0xFFF, 0xFD9)
  | .popF => (0xFFF, 0xFDA)
  | .incSP => (0xFFF, 0xFDB)
  | .rets => (0xFFF, 0xFDE)
  | .ret => (0xFFF, 0xFDF)
  | .ldSPHR _ => (0xFFC, 0xFE0)
  | .ldRSPH _ => (0xFFC, 0xFE4)
  | .jpba => (0xFFF, 0xFE8)
  | .ldSPLR _ => (0xFFC, 0xFF0)
  | .ldRSPL _ => (0xFFC, 0xFF4)
  | .halt => (0xFFF, 0xFF8)
  | .slp => (0xFFF, 0xFF9)
  | .nop5 => (0xFFF, 0xFFB)
  | .nop7 => (0xFFF, 0xFFF)

/-- The word of the instruction has the fixed bits of its row. -/
def RowMatch.Statement (i : Instr) : Prop :=
  encode i &&& (RowMatch.row i).1 = (RowMatch.row i).2

theorem RowMatch.jp (step : BitVec 8) : RowMatch.Statement (.jp step) := by
  unfold RowMatch.Statement; revert step; decide
theorem RowMatch.retd (e : BitVec 8) : RowMatch.Statement (.retd e) := by
  unfold RowMatch.Statement; revert e; decide
theorem RowMatch.jpC (step : BitVec 8) : RowMatch.Statement (.jpC step) := by
  unfold RowMatch.Statement; revert step; decide
theorem RowMatch.jpNC (step : BitVec 8) : RowMatch.Statement (.jpNC step) := by
  unfold RowMatch.Statement; revert step; decide
theorem RowMatch.call (step : BitVec 8) : RowMatch.Statement (.call step) := by
  unfold RowMatch.Statement; revert step; decide
theorem RowMatch.calz (step : BitVec 8) : RowMatch.Statement (.calz step) := by
  unfold RowMatch.Statement; revert step; decide
theorem RowMatch.jpZ (step : BitVec 8) : RowMatch.Statement (.jpZ step) := by
  unfold RowMatch.Statement; revert step; decide
theorem RowMatch.jpNZ (step : BitVec 8) : RowMatch.Statement (.jpNZ step) := by
  unfold RowMatch.Statement; revert step; decide
theorem RowMatch.ldYE (e : BitVec 8) : RowMatch.Statement (.ldYE e) := by
  unfold RowMatch.Statement; revert e; decide
theorem RowMatch.lbpxMXE (e : BitVec 8) : RowMatch.Statement (.lbpxMXE e) := by
  unfold RowMatch.Statement; revert e; decide
theorem RowMatch.adcXHI (i : Nibble) : RowMatch.Statement (.adcXHI i) := by
  unfold RowMatch.Statement; revert i; decide
theorem RowMatch.adcXLI (i : Nibble) : RowMatch.Statement (.adcXLI i) := by
  unfold RowMatch.Statement; revert i; decide
theorem RowMatch.adcYHI (i : Nibble) : RowMatch.Statement (.adcYHI i) := by
  unfold RowMatch.Statement; revert i; decide
theorem RowMatch.adcYLI (i : Nibble) : RowMatch.Statement (.adcYLI i) := by
  unfold RowMatch.Statement; revert i; decide
theorem RowMatch.cpXHI (i : Nibble) : RowMatch.Statement (.cpXHI i) := by
  unfold RowMatch.Statement; revert i; decide
theorem RowMatch.cpXLI (i : Nibble) : RowMatch.Statement (.cpXLI i) := by
  unfold RowMatch.Statement; revert i; decide
theorem RowMatch.cpYHI (i : Nibble) : RowMatch.Statement (.cpYHI i) := by
  unfold RowMatch.Statement; revert i; decide
theorem RowMatch.cpYLI (i : Nibble) : RowMatch.Statement (.cpYLI i) := by
  unfold RowMatch.Statement; revert i; decide
theorem RowMatch.addRQ (r : Reg) (q : Reg) : RowMatch.Statement (.addRQ r q) := by cases r <;> cases q <;> rfl
theorem RowMatch.adcRQ (r : Reg) (q : Reg) : RowMatch.Statement (.adcRQ r q) := by cases r <;> cases q <;> rfl
theorem RowMatch.subRQ (r : Reg) (q : Reg) : RowMatch.Statement (.subRQ r q) := by cases r <;> cases q <;> rfl
theorem RowMatch.sbcRQ (r : Reg) (q : Reg) : RowMatch.Statement (.sbcRQ r q) := by cases r <;> cases q <;> rfl
theorem RowMatch.andRQ (r : Reg) (q : Reg) : RowMatch.Statement (.andRQ r q) := by cases r <;> cases q <;> rfl
theorem RowMatch.orRQ (r : Reg) (q : Reg) : RowMatch.Statement (.orRQ r q) := by cases r <;> cases q <;> rfl
theorem RowMatch.xorRQ (r : Reg) (q : Reg) : RowMatch.Statement (.xorRQ r q) := by cases r <;> cases q <;> rfl
theorem RowMatch.rlcR (r : Reg) : RowMatch.Statement (.rlcR r) := by cases r <;> rfl
theorem RowMatch.ldXE (e : BitVec 8) : RowMatch.Statement (.ldXE e) := by
  unfold RowMatch.Statement; revert e; decide
theorem RowMatch.addRI (r : Reg) (i : Nibble) : RowMatch.Statement (.addRI r i) := by
  unfold RowMatch.Statement; cases r <;> (revert i; decide)
theorem RowMatch.adcRI (r : Reg) (i : Nibble) : RowMatch.Statement (.adcRI r i) := by
  unfold RowMatch.Statement; cases r <;> (revert i; decide)
theorem RowMatch.andRI (r : Reg) (i : Nibble) : RowMatch.Statement (.andRI r i) := by
  unfold RowMatch.Statement; cases r <;> (revert i; decide)
theorem RowMatch.orRI (r : Reg) (i : Nibble) : RowMatch.Statement (.orRI r i) := by
  unfold RowMatch.Statement; cases r <;> (revert i; decide)
theorem RowMatch.xorRI (r : Reg) (i : Nibble) : RowMatch.Statement (.xorRI r i) := by
  unfold RowMatch.Statement; cases r <;> (revert i; decide)
theorem RowMatch.notR (r : Reg) : RowMatch.Statement (.notR r) := by cases r <;> rfl
theorem RowMatch.sbcRI (r : Reg) (i : Nibble) : RowMatch.Statement (.sbcRI r i) := by
  unfold RowMatch.Statement; cases r <;> (revert i; decide)
theorem RowMatch.fanRI (r : Reg) (i : Nibble) : RowMatch.Statement (.fanRI r i) := by
  unfold RowMatch.Statement; cases r <;> (revert i; decide)
theorem RowMatch.cpRI (r : Reg) (i : Nibble) : RowMatch.Statement (.cpRI r i) := by
  unfold RowMatch.Statement; cases r <;> (revert i; decide)
theorem RowMatch.ldRI (r : Reg) (i : Nibble) : RowMatch.Statement (.ldRI r i) := by
  unfold RowMatch.Statement; cases r <;> (revert i; decide)
theorem RowMatch.pset (p : BitVec 5) : RowMatch.Statement (.pset p) := by
  unfold RowMatch.Statement; revert p; decide
theorem RowMatch.ldpxMXI (i : Nibble) : RowMatch.Statement (.ldpxMXI i) := by
  unfold RowMatch.Statement; revert i; decide
theorem RowMatch.ldpyMYI (i : Nibble) : RowMatch.Statement (.ldpyMYI i) := by
  unfold RowMatch.Statement; revert i; decide
theorem RowMatch.ldXPR (r : Reg) : RowMatch.Statement (.ldXPR r) := by cases r <;> rfl
theorem RowMatch.ldXHR (r : Reg) : RowMatch.Statement (.ldXHR r) := by cases r <;> rfl
theorem RowMatch.ldXLR (r : Reg) : RowMatch.Statement (.ldXLR r) := by cases r <;> rfl
theorem RowMatch.rrcR (r : Reg) : RowMatch.Statement (.rrcR r) := by cases r <;> rfl
theorem RowMatch.ldYPR (r : Reg) : RowMatch.Statement (.ldYPR r) := by cases r <;> rfl
theorem RowMatch.ldYHR (r : Reg) : RowMatch.Statement (.ldYHR r) := by cases r <;> rfl
theorem RowMatch.ldYLR (r : Reg) : RowMatch.Statement (.ldYLR r) := by cases r <;> rfl
theorem RowMatch.ldRXP (r : Reg) : RowMatch.Statement (.ldRXP r) := by cases r <;> rfl
theorem RowMatch.ldRXH (r : Reg) : RowMatch.Statement (.ldRXH r) := by cases r <;> rfl
theorem RowMatch.ldRXL (r : Reg) : RowMatch.Statement (.ldRXL r) := by cases r <;> rfl
theorem RowMatch.ldRYP (r : Reg) : RowMatch.Statement (.ldRYP r) := by cases r <;> rfl
theorem RowMatch.ldRYH (r : Reg) : RowMatch.Statement (.ldRYH r) := by cases r <;> rfl
theorem RowMatch.ldRYL (r : Reg) : RowMatch.Statement (.ldRYL r) := by cases r <;> rfl
theorem RowMatch.ldRQ (r : Reg) (q : Reg) : RowMatch.Statement (.ldRQ r q) := by cases r <;> cases q <;> rfl
theorem RowMatch.ldpxRQ (r : Reg) (q : Reg) : RowMatch.Statement (.ldpxRQ r q) := by cases r <;> cases q <;> rfl
theorem RowMatch.incX : RowMatch.Statement .incX := rfl
theorem RowMatch.ldpyRQ (r : Reg) (q : Reg) : RowMatch.Statement (.ldpyRQ r q) := by cases r <;> cases q <;> rfl
theorem RowMatch.incY : RowMatch.Statement .incY := rfl
theorem RowMatch.cpRQ (r : Reg) (q : Reg) : RowMatch.Statement (.cpRQ r q) := by cases r <;> cases q <;> rfl
theorem RowMatch.fanRQ (r : Reg) (q : Reg) : RowMatch.Statement (.fanRQ r q) := by cases r <;> cases q <;> rfl
theorem RowMatch.acpxMXR (r : Reg) : RowMatch.Statement (.acpxMXR r) := by cases r <;> rfl
theorem RowMatch.acpyMYR (r : Reg) : RowMatch.Statement (.acpyMYR r) := by cases r <;> rfl
theorem RowMatch.scpxMXR (r : Reg) : RowMatch.Statement (.scpxMXR r) := by cases r <;> rfl
theorem RowMatch.scpyMYR (r : Reg) : RowMatch.Statement (.scpyMYR r) := by cases r <;> rfl
theorem RowMatch.setF (i : Nibble) : RowMatch.Statement (.setF i) := by
  unfold RowMatch.Statement; revert i; decide
theorem RowMatch.scf : RowMatch.Statement .scf := rfl
theorem RowMatch.szf : RowMatch.Statement .szf := rfl
theorem RowMatch.sdf : RowMatch.Statement .sdf := rfl
theorem RowMatch.ei : RowMatch.Statement .ei := rfl
theorem RowMatch.rstF (i : Nibble) : RowMatch.Statement (.rstF i) := by
  unfold RowMatch.Statement; revert i; decide
theorem RowMatch.di : RowMatch.Statement .di := rfl
theorem RowMatch.rdf : RowMatch.Statement .rdf := rfl
theorem RowMatch.rzf : RowMatch.Statement .rzf := rfl
theorem RowMatch.rcf : RowMatch.Statement .rcf := rfl
theorem RowMatch.incMn (n : Nibble) : RowMatch.Statement (.incMn n) := by
  unfold RowMatch.Statement; revert n; decide
theorem RowMatch.decMn (n : Nibble) : RowMatch.Statement (.decMn n) := by
  unfold RowMatch.Statement; revert n; decide
theorem RowMatch.ldMnA (n : Nibble) : RowMatch.Statement (.ldMnA n) := by
  unfold RowMatch.Statement; revert n; decide
theorem RowMatch.ldMnB (n : Nibble) : RowMatch.Statement (.ldMnB n) := by
  unfold RowMatch.Statement; revert n; decide
theorem RowMatch.ldAMn (n : Nibble) : RowMatch.Statement (.ldAMn n) := by
  unfold RowMatch.Statement; revert n; decide
theorem RowMatch.ldBMn (n : Nibble) : RowMatch.Statement (.ldBMn n) := by
  unfold RowMatch.Statement; revert n; decide
theorem RowMatch.pushR (r : Reg) : RowMatch.Statement (.pushR r) := by cases r <;> rfl
theorem RowMatch.pushXP : RowMatch.Statement .pushXP := rfl
theorem RowMatch.pushXH : RowMatch.Statement .pushXH := rfl
theorem RowMatch.pushXL : RowMatch.Statement .pushXL := rfl
theorem RowMatch.pushYP : RowMatch.Statement .pushYP := rfl
theorem RowMatch.pushYH : RowMatch.Statement .pushYH := rfl
theorem RowMatch.pushYL : RowMatch.Statement .pushYL := rfl
theorem RowMatch.pushF : RowMatch.Statement .pushF := rfl
theorem RowMatch.decSP : RowMatch.Statement .decSP := rfl
theorem RowMatch.popR (r : Reg) : RowMatch.Statement (.popR r) := by cases r <;> rfl
theorem RowMatch.popXP : RowMatch.Statement .popXP := rfl
theorem RowMatch.popXH : RowMatch.Statement .popXH := rfl
theorem RowMatch.popXL : RowMatch.Statement .popXL := rfl
theorem RowMatch.popYP : RowMatch.Statement .popYP := rfl
theorem RowMatch.popYH : RowMatch.Statement .popYH := rfl
theorem RowMatch.popYL : RowMatch.Statement .popYL := rfl
theorem RowMatch.popF : RowMatch.Statement .popF := rfl
theorem RowMatch.incSP : RowMatch.Statement .incSP := rfl
theorem RowMatch.rets : RowMatch.Statement .rets := rfl
theorem RowMatch.ret : RowMatch.Statement .ret := rfl
theorem RowMatch.ldSPHR (r : Reg) : RowMatch.Statement (.ldSPHR r) := by cases r <;> rfl
theorem RowMatch.ldRSPH (r : Reg) : RowMatch.Statement (.ldRSPH r) := by cases r <;> rfl
theorem RowMatch.jpba : RowMatch.Statement .jpba := rfl
theorem RowMatch.ldSPLR (r : Reg) : RowMatch.Statement (.ldSPLR r) := by cases r <;> rfl
theorem RowMatch.ldRSPL (r : Reg) : RowMatch.Statement (.ldRSPL r) := by cases r <;> rfl
theorem RowMatch.halt : RowMatch.Statement .halt := rfl
theorem RowMatch.slp : RowMatch.Statement .slp := rfl
theorem RowMatch.nop5 : RowMatch.Statement .nop5 := rfl
theorem RowMatch.nop7 : RowMatch.Statement .nop7 := rfl

end Sys2Proof.Laws
end

