-- ==== Sys2Proof/Laws/Stops.lean ====
section
/-!
SUPPORT. The other half of what each shared operation can do: why it stops. Every stop of an operation is a data access
to an address where nothing is (R64), or one R325 calls "Not possible"; neither exists where all is RAM.
-/

namespace Sys2Proof.Machine

/-- A stop of a data access from the state, on a device that is not RAM throughout. -/
def DataStop (s : State) (e : Stop) : Prop :=
  s.device.dmemMap ≠ [] ∧
  ((∃ addr, e = .fault (.dmemUnmapped addr) ∧ kindAt s.device addr = .unmapped) ∨
   (∃ addr, e = .refusal (.interruptRegisterAtEI addr) ∧ s.device.variant = .e0c6200 ∧ s.fi = true ∧
      (kindAt s.device addr = .interruptMask ∨ kindAt s.device addr = .interruptFactor)))

/-- A computation from the state stops only at data accesses. -/
def StopsOnly {α : Type} (s : State) (x : Res α) : Prop := ∀ e, x = .error e → DataStop s e

/-- Two states have the same stops: the same device and the same I. -/
def SameAccess (s t : State) : Prop := t.device = s.device ∧ t.fi = s.fi

theorem DataStop.of_same {s t : State} {e : Stop} (h : SameAccess s t) (q : DataStop t e) : DataStop s e := by
  unfold DataStop at *
  rw [h.1, h.2] at q
  exact q

/-- A device whose map lists nothing is RAM throughout (D1). -/
theorem kindAt_closed (d : Device) (h : d.dmemMap = []) (addr : DataAddr) : kindAt d addr = .ram := by
  simp [kindAt, h]

theorem StopsOnly.ok {α : Type} (s : State) (x : α) : StopsOnly s (.ok x : Res α) := fun _ h => by cases h

theorem StopsOnly.pure {α : Type} (s : State) (x : α) : StopsOnly s (pure x : Res α) := StopsOnly.ok s x

theorem StopsOnly.bind {α β : Type} {s : State} {x : Res α} {f : α → Res β} (hx : StopsOnly s x)
    (hf : ∀ p, x = .ok p → StopsOnly s (f p)) : StopsOnly s (x >>= f) := by
  intro e h
  cases x with
  | error k =>
    refine hx e ?_
    cases h
    rfl
  | ok p => exact hf p rfl e h

/-! ### One access -/

theorem StopsOnly.memRead {s t : State} (h : SameAccess s t) (addr : DataAddr) : StopsOnly s (t.memRead addr) := by
  intro e he
  apply DataStop.of_same h
  unfold State.memRead State.readStop at he
  refine ⟨fun hm => ?_, ?_⟩
  · rw [kindAt_closed _ hm] at he; cases he
  · split at he
    · rename_i e' h1
      cases he
      cases hk : kindAt t.device addr <;> rw [hk] at h1
      · cases h1
      · cases h1
      · cases h1
      · simp only [Option.ite_none_right_eq_some, Option.some.injEq] at h1
        obtain ⟨h2, rfl⟩ := h1
        exact .inr ⟨addr, rfl, h2.1, h2.2, .inr hk⟩
      · simp only [Option.some.injEq] at h1
        subst h1
        exact .inl ⟨addr, rfl, hk⟩
    · cases he

theorem StopsOnly.memWrite {s t : State} (h : SameAccess s t) (addr : DataAddr) (v : Nibble) :
    StopsOnly s (t.memWrite addr v) := by
  intro e he
  apply DataStop.of_same h
  unfold State.memWrite State.writeStop at he
  refine ⟨fun hm => ?_, ?_⟩
  · rw [kindAt_closed _ hm] at he; cases he
  · split at he
    · rename_i e' h1
      cases he
      cases hk : kindAt t.device addr <;> rw [hk] at h1
      · cases h1
      · cases h1
      · simp only [Option.ite_none_right_eq_some, Option.some.injEq] at h1
        obtain ⟨h2, rfl⟩ := h1
        exact .inr ⟨addr, rfl, h2.1, h2.2, .inl hk⟩
      · cases h1
      · simp only [Option.some.injEq] at h1
        subst h1
        exact .inl ⟨addr, rfl, hk⟩
    · cases he

theorem SameAccess.memRead {s t : State} {addr : DataAddr} {p : Nibble × State} (h : SameAccess s t)
    (k : t.memRead addr = .ok p) : SameAccess s p.2 := by
  obtain ⟨_, rfl⟩ := (State.memRead_ok _ _ _).1 k
  exact ⟨by simp [h.1], by simp [h.2]⟩

theorem SameAccess.memWrite {s t u : State} {addr : DataAddr} {v : Nibble} (h : SameAccess s t)
    (k : t.memWrite addr v = .ok u) : SameAccess s u := by
  obtain ⟨_, rfl⟩ := (State.memWrite_ok _ _ _ _).1 k
  exact ⟨by simp [h.1], by simp [h.2]⟩

/-! ### Operands -/

theorem StopsOnly.regRead {s t : State} (h : SameAccess s t) (r : Reg) : StopsOnly s (t.regRead r) := by
  cases r
  · exact StopsOnly.ok _ _
  · exact StopsOnly.ok _ _
  · exact StopsOnly.memRead h _
  · exact StopsOnly.memRead h _

theorem StopsOnly.regWrite {s t : State} (h : SameAccess s t) (r : Reg) (v : Nibble) :
    StopsOnly s (t.regWrite r v) := by
  cases r
  · exact StopsOnly.ok _ _
  · exact StopsOnly.ok _ _
  · exact StopsOnly.memWrite h _ _
  · exact StopsOnly.memWrite h _ _

theorem SameAccess.regRead {s t : State} {r : Reg} {p : Nibble × State} (h : SameAccess s t)
    (k : t.regRead r = .ok p) : SameAccess s p.2 := by
  obtain ⟨_, rfl⟩ := (State.regRead_ok _ _ _).1 k
  exact ⟨by simp [h.1], by simp [h.2]⟩

theorem StopsOnly.srcRead {s t : State} (h : SameAccess s t) (q : Src) : StopsOnly s (t.srcRead q) := by
  cases q
  · exact StopsOnly.ok _ _
  · exact StopsOnly.regRead h _

theorem SameAccess.srcRead {s t : State} {q : Src} {p : Nibble × State} (h : SameAccess s t)
    (k : t.srcRead q = .ok p) : SameAccess s p.2 := by
  obtain ⟨_, rfl⟩ := (State.srcRead_ok _ _ _).1 k
  exact ⟨by simp [h.1], by simp [h.2]⟩

/-! ### Shared shapes -/

theorem StopsOnly.arith {s t : State} (h : SameAccess s t) (f : Nibble → Nibble → AluOut) (r : Reg) (q : Src) :
    StopsOnly s (t.arith f r q) :=
  .bind (.regRead h r) fun p hp => .bind (.srcRead (.regRead h hp) q) fun u hu =>
    .bind (.regWrite (t := u.2.latch p.1 u.1) (SameAccess.srcRead (.regRead h hp) hu) r _) fun _ _ => .pure _ _

theorem StopsOnly.logic {s t : State} (h : SameAccess s t) (f : Nibble → Nibble → Nibble) (r : Reg) (q : Src) :
    StopsOnly s (t.logic f r q) :=
  .bind (.regRead h r) fun p hp => .bind (.srcRead (.regRead h hp) q) fun u hu =>
    .bind (.regWrite (t := u.2.latch p.1 u.1) (SameAccess.srcRead (.regRead h hp) hu) r _) fun _ _ => .pure _ _

theorem StopsOnly.compare {s t : State} (h : SameAccess s t) (r : Reg) (q : Src) : StopsOnly s (t.compare r q) :=
  .bind (.regRead h r) fun _ hp => .bind (.srcRead (.regRead h hp) q) fun _ _ => .pure _ _

theorem StopsOnly.testBits {s t : State} (h : SameAccess s t) (r : Reg) (q : Src) : StopsOnly s (t.testBits r q) :=
  .bind (.regRead h r) fun _ hp => .bind (.srcRead (.regRead h hp) q) fun _ _ => .pure _ _

theorem StopsOnly.arithMem {s t : State} (h : SameAccess s t) (f : Nibble → Nibble → AluOut) (addr : DataAddr)
    (r : Reg) : StopsOnly s (t.arithMem f addr r) :=
  .bind (.memRead h addr) fun p hp => .bind (.regRead (.memRead h hp) r) fun u hu =>
    .bind (.memWrite (t := u.2.latch p.1 u.1) (SameAccess.regRead (.memRead h hp) hu) addr _) fun _ _ => .pure _ _

theorem StopsOnly.stepDirect {s t : State} (h : SameAccess s t) (f : Nibble → Nibble → AluOut) (n : Nibble) :
    StopsOnly s (t.stepDirect f n) :=
  .bind (.memRead (t := t.loadRP n) h _) fun p hp =>
    .bind (.memWrite (t := p.2.latch p.1 1) (SameAccess.memRead (t := t.loadRP n) h hp) _ _) fun _ _ => .pure _ _

theorem StopsOnly.move {s t : State} (h : SameAccess s t) (r q : Reg) : StopsOnly s (t.move r q) :=
  .bind (.regRead h q) fun _ hp => .regWrite (.regRead h hp) _ _

theorem StopsOnly.storePair {s t : State} (h : SameAccess s t) (e : BitVec 8) : StopsOnly s (t.storePair e) :=
  .bind (.memWrite h _ _) fun _ hp => .memWrite (.memWrite h hp) _ _

theorem SameAccess.storePair {s t u : State} {e : BitVec 8} (h : SameAccess s t) (k : t.storePair e = .ok u) :
    SameAccess s u := by
  obtain ⟨_, _, rfl⟩ := (State.storePair_ok _ _ _).1 k
  exact ⟨by simp [h.1], by simp [h.2]⟩

theorem StopsOnly.loadPart {s t : State} (h : SameAccess s t) (put : State → Nibble → State) (r : Reg) :
    StopsOnly s (t.loadPart put r) :=
  .bind (.regRead h _) fun _ _ => .pure _ _

theorem StopsOnly.storePart {s t : State} (h : SameAccess s t) (v : Nibble) (r : Reg) :
    StopsOnly s (t.storePart v r) :=
  .bind (.regWrite h _ _) fun _ _ => .pure _ _

/-! ### The stack -/

theorem StopsOnly.pushRet {s t : State} (h : SameAccess s t) (ret : BitVec 12) : StopsOnly s (t.pushRet ret) :=
  .bind (.memWrite h _ _) fun _ hp => .bind (.memWrite (.memWrite h hp) _ _) fun _ hq =>
    .bind (.memWrite (.memWrite (.memWrite h hp) hq) _ _) fun _ _ => .pure _ _

theorem StopsOnly.popRet {s t : State} (h : SameAccess s t) : StopsOnly s t.popRet :=
  .bind (.memRead h _) fun _ hp => .bind (.memRead (.memRead h hp) _) fun _ hq =>
    .bind (.memRead (.memRead (.memRead h hp) hq) _) fun _ _ => .pure _ _

theorem SameAccess.popRet {s t : State} {p : BitVec 12 × State} (h : SameAccess s t) (k : t.popRet = .ok p) :
    SameAccess s p.2 := by
  obtain ⟨_, rfl⟩ := (State.popRet_ok _ _).1 k
  exact ⟨by simp [h.1], by simp [h.2]⟩

theorem StopsOnly.returnFromStack {s t : State} (h : SameAccess s t) : StopsOnly s t.returnFromStack :=
  .bind (.popRet h) fun _ _ => .pure _ _

theorem StopsOnly.pushValue {s t : State} (h : SameAccess s t) (v : Nibble) : StopsOnly s (t.pushValue v) :=
  .bind (.memWrite (t := t.setSP (t.sp - 1)) h (stackAddr (t.sp - 1)) v) fun _ _ => .pure _ _

theorem StopsOnly.pop1 {s t : State} (h : SameAccess s t) : StopsOnly s t.pop1 :=
  .bind (.memRead h _) fun _ _ => .pure _ _

theorem SameAccess.pop1 {s t : State} {p : Nibble × State} (h : SameAccess s t) (k : t.pop1 = .ok p) :
    SameAccess s p.2 := by
  obtain ⟨_, rfl⟩ := (State.pop1_ok _ _).1 k
  exact ⟨by simp [h.1], by simp [h.2]⟩

theorem StopsOnly.popInto {s t : State} (h : SameAccess s t) (put : State → Nibble → State) :
    StopsOnly s (t.popInto put) :=
  .bind (.pop1 h) fun _ _ => .pure _ _

end Sys2Proof.Machine
end

