-- ==== Sys2Proof/Tests/Slice0.lean ====
section
/-!
SUPPORT. Our own checks: the words of the encoding, ill-formed terms, one step of each instruction from the manual's
worked examples (spec/95_test_vectors.md, Part A; "B" and "T" are spec/96_test_vectors_derived.md), and for each
statement with hypotheses a state that meets them. Expected values are the spec's, not the model's.
-/

namespace Sys2Proof.Tests

open Sys2Proof.Machine

/-! ### Well-formedness (R99): each aliased word, under its general form, is refused -/

theorem smoke_xorRI_notForm : ¬ (.xorRI .mx 0xF : Instr).WellFormed := by decide
theorem smoke_ldpxRQ_incForm : ¬ (.ldpxRQ .a .a : Instr).WellFormed := by decide
theorem smoke_ldpyRQ_incForm : ¬ (.ldpyRQ .a .a : Instr).WellFormed := by decide
theorem smoke_setF_scf : ¬ (.setF 0x1 : Instr).WellFormed := by decide
theorem smoke_setF_szf : ¬ (.setF 0x2 : Instr).WellFormed := by decide
theorem smoke_setF_sdf : ¬ (.setF 0x4 : Instr).WellFormed := by decide
theorem smoke_setF_ei : ¬ (.setF 0x8 : Instr).WellFormed := by decide
theorem smoke_rstF_rcf : ¬ (.rstF 0xE : Instr).WellFormed := by decide
theorem smoke_rstF_rzf : ¬ (.rstF 0xD : Instr).WellFormed := by decide
theorem smoke_rstF_rdf : ¬ (.rstF 0xB : Instr).WellFormed := by decide
theorem smoke_rstF_di : ¬ (.rstF 0x7 : Instr).WellFormed := by decide
theorem smoke_neighbours : (.xorRI .mx 0xE : Instr).WellFormed ∧ (.ldpxRQ .a .b : Instr).WellFormed ∧
    (.ldpyRQ .b .a : Instr).WellFormed ∧ (.setF 0x0 : Instr).WellFormed ∧ (.setF 0xF : Instr).WellFormed ∧
    (.rstF 0x0 : Instr).WellFormed ∧ (.rstF 0xF : Instr).WellFormed := by decide

/-! ### Words written out from the patterns of R100, with unlike values in unlike fields -/

theorem test_decode_branch :
    decode 0b000010100101 = .ok (.jp 0xA5) ∧
    decode 0b000111000111 = .ok (.retd 0xC7) ∧
    decode 0b001010100101 = .ok (.jpC 0xA5) ∧
    decode 0b001110100101 = .ok (.jpNC 0xA5) ∧
    decode 0b010010100101 = .ok (.call 0xA5) ∧
    decode 0b010110100101 = .ok (.calz 0xA5) ∧
    decode 0b011010100101 = .ok (.jpZ 0xA5) ∧
    decode 0b011110100101 = .ok (.jpNZ 0xA5) ∧
    decode 0b111001010011 = .ok (.pset 0x13) ∧
    decode 0b111111011110 = .ok .rets ∧
    decode 0b111111011111 = .ok .ret ∧
    decode 0b111111101000 = .ok .jpba := by decide
theorem test_decode_index_1 :
    decode 0b100011000111 = .ok (.ldYE 0xC7) ∧
    decode 0b101000000110 = .ok (.adcXHI 0x6) ∧
    decode 0b101000010110 = .ok (.adcXLI 0x6) ∧
    decode 0b101000100110 = .ok (.adcYHI 0x6) ∧
    decode 0b101000110110 = .ok (.adcYLI 0x6) ∧
    decode 0b101001000110 = .ok (.cpXHI 0x6) ∧
    decode 0b101001010110 = .ok (.cpXLI 0x6) ∧
    decode 0b101001100110 = .ok (.cpYHI 0x6) ∧
    decode 0b101001110110 = .ok (.cpYLI 0x6) ∧
    decode 0b101111000111 = .ok (.ldXE 0xC7) ∧
    decode 0b111010000001 = .ok (.ldXPR .b) ∧
    decode 0b111010000101 = .ok (.ldXHR .b) := by decide
theorem test_decode_index_2 :
    decode 0b111010001001 = .ok (.ldXLR .b) ∧
    decode 0b111010010001 = .ok (.ldYPR .b) ∧
    decode 0b111010010101 = .ok (.ldYHR .b) ∧
    decode 0b111010011001 = .ok (.ldYLR .b) ∧
    decode 0b111010100001 = .ok (.ldRXP .b) ∧
    decode 0b111010100101 = .ok (.ldRXH .b) ∧
    decode 0b111010101001 = .ok (.ldRXL .b) ∧
    decode 0b111010110001 = .ok (.ldRYP .b) ∧
    decode 0b111010110101 = .ok (.ldRYH .b) ∧
    decode 0b111010111001 = .ok (.ldRYL .b) ∧
    decode 0b111011100000 = .ok .incX ∧
    decode 0b111011110000 = .ok .incY := by decide
theorem test_decode_transfer :
    decode 0b100111000111 = .ok (.lbpxMXE 0xC7) ∧
    decode 0b111000010110 = .ok (.ldRI .b 0x6) ∧
    decode 0b111001100110 = .ok (.ldpxMXI 0x6) ∧
    decode 0b111001110110 = .ok (.ldpyMYI 0x6) ∧
    decode 0b111011000110 = .ok (.ldRQ .b .mx) ∧
    decode 0b111011100110 = .ok (.ldpxRQ .b .mx) ∧
    decode 0b111011110110 = .ok (.ldpyRQ .b .mx) ∧
    decode 0b111110001101 = .ok (.ldMnA 0xD) ∧
    decode 0b111110011101 = .ok (.ldMnB 0xD) ∧
    decode 0b111110101101 = .ok (.ldAMn 0xD) ∧
    decode 0b111110111101 = .ok (.ldBMn 0xD) := by decide
theorem test_decode_arith_1 :
    decode 0b101010000110 = .ok (.addRQ .b .mx) ∧
    decode 0b101010010110 = .ok (.adcRQ .b .mx) ∧
    decode 0b101010100110 = .ok (.subRQ .b .mx) ∧
    decode 0b101010110110 = .ok (.sbcRQ .b .mx) ∧
    decode 0b101011000110 = .ok (.andRQ .b .mx) ∧
    decode 0b101011010110 = .ok (.orRQ .b .mx) ∧
    decode 0b101011100110 = .ok (.xorRQ .b .mx) ∧
    decode 0b101011110101 = .ok (.rlcR .b) ∧
    decode 0b110000010110 = .ok (.addRI .b 0x6) ∧
    decode 0b110001010110 = .ok (.adcRI .b 0x6) ∧
    decode 0b110010010110 = .ok (.andRI .b 0x6) ∧
    decode 0b110011010110 = .ok (.orRI .b 0x6) := by decide
theorem test_decode_arith_2 :
    decode 0b110100010110 = .ok (.xorRI .b 0x6) ∧
    decode 0b110100011111 = .ok (.notR .b) ∧
    decode 0b110101010110 = .ok (.sbcRI .b 0x6) ∧
    decode 0b110110010110 = .ok (.fanRI .b 0x6) ∧
    decode 0b110111010110 = .ok (.cpRI .b 0x6) ∧
    decode 0b111010001101 = .ok (.rrcR .b) ∧
    decode 0b111100000110 = .ok (.cpRQ .b .mx) ∧
    decode 0b111100010110 = .ok (.fanRQ .b .mx) ∧
    decode 0b111100101001 = .ok (.acpxMXR .b) ∧
    decode 0b111100101101 = .ok (.acpyMYR .b) ∧
    decode 0b111100111001 = .ok (.scpxMXR .b) ∧
    decode 0b111100111101 = .ok (.scpyMYR .b) := by decide
theorem test_decode_arith_3 :
    decode 0b111101101101 = .ok (.incMn 0xD) ∧
    decode 0b111101111101 = .ok (.decMn 0xD) := by decide
theorem test_decode_flags :
    decode 0b111101000110 = .ok (.setF 0x6) ∧
    decode 0b111101000001 = .ok .scf ∧
    decode 0b111101000010 = .ok .szf ∧
    decode 0b111101000100 = .ok .sdf ∧
    decode 0b111101001000 = .ok .ei ∧
    decode 0b111101010110 = .ok (.rstF 0x6) ∧
    decode 0b111101010111 = .ok .di ∧
    decode 0b111101011011 = .ok .rdf ∧
    decode 0b111101011101 = .ok .rzf ∧
    decode 0b111101011110 = .ok .rcf := by decide
theorem test_decode_stack_1 :
    decode 0b111111000001 = .ok (.pushR .b) ∧
    decode 0b111111000100 = .ok .pushXP ∧
    decode 0b111111000101 = .ok .pushXH ∧
    decode 0b111111000110 = .ok .pushXL ∧
    decode 0b111111000111 = .ok .pushYP ∧
    decode 0b111111001000 = .ok .pushYH ∧
    decode 0b111111001001 = .ok .pushYL ∧
    decode 0b111111001010 = .ok .pushF ∧
    decode 0b111111001011 = .ok .decSP ∧
    decode 0b111111010001 = .ok (.popR .b) ∧
    decode 0b111111010100 = .ok .popXP ∧
    decode 0b111111010101 = .ok .popXH := by decide
theorem test_decode_stack_2 :
    decode 0b111111010110 = .ok .popXL ∧
    decode 0b111111010111 = .ok .popYP ∧
    decode 0b111111011000 = .ok .popYH ∧
    decode 0b111111011001 = .ok .popYL ∧
    decode 0b111111011010 = .ok .popF ∧
    decode 0b111111011011 = .ok .incSP ∧
    decode 0b111111100001 = .ok (.ldSPHR .b) ∧
    decode 0b111111100101 = .ok (.ldRSPH .b) ∧
    decode 0b111111110001 = .ok (.ldSPLR .b) ∧
    decode 0b111111110101 = .ok (.ldRSPL .b) := by decide
theorem test_decode_system :
    decode 0b111111111000 = .ok .halt ∧
    decode 0b111111111001 = .ok .slp ∧
    decode 0b111111111011 = .ok .nop5 ∧
    decode 0b111111111111 = .ok .nop7 := by decide

theorem test_decode_refusals :
    decode 0xF20 = .error .undefinedWord ∧ decode 0xE9C = .error .undefinedWord ∧
    decode 0xFFE = .error .undefinedWord ∧ decode 0xAF1 = .error .rlcFields ∧
    decodeTableWord 16 0xF20 = none ∧ decodeTableWord 16 0xF28 = some (.acpxMXR .a) := by decide

/-! ### One step of each instruction -/

/-- The state after one step that runs a word, if there is one. -/
def after (s : State) (w : Nat) : Option State :=
  match step (s.withFetchWord 16 w) with
  | .next t => some t
  | .fault _ => none
  | .refused _ => none

/-- A36: JP 10H. -/
theorem test_jp :
    (after { State.reset with pcp := 0x0, pcs := 0x43, npp := 0xA, psetf := true } 0x10).map
      (fun t => (t.pcb, t.pcp, t.pcs, t.psetf)) = some (0x0, 0xA, 0x10, false) := by decide
/-- A92: RETD F5H. -/
theorem test_retd :
    (after { State.reset with
        pcp := 0x0, pcs := 0xAB, xh := 0x2, xl := 0xA, sp := 0xBD, ram := [(0x2A, 0x0), (0x2B, 0x0), (0xBD, 0xD),
        (0xBE, 0x2), (0xBF, 0x2)] } 0x1F5).map
      (fun t => (t.pcp, t.pcs, t.xhl, t.sp, t.ramWord 0x2A)) = some (0x2, 0x2D, 0x2C, 0xC0, 0x5) := by decide
/-- A33: JP C,10H. -/
theorem test_jpC :
    (after { State.reset with pcp := 0x2, pcs := 0x3E, fc := true, npp := 0x6, psetf := true, fz := true } 0x210).map
      (fun t => (t.pcb, t.pcp, t.pcs, t.psetf)) = some (0x0, 0x6, 0x10, false) := by decide
/-- A34: JP NC,10H. -/
theorem test_jpNC :
    (after { State.reset with pcp := 0x9, pcs := 0x90, nbp := 0x1, psetf := true } 0x310).map
      (fun t => (t.pcb, t.pcp, t.pcs, t.psetf)) = some (0x1, 0x1, 0x10, false) := by decide
/-- A13: CALL 10H. -/
theorem test_call :
    (after { State.reset with pcp := 0x3, pcs := 0x2C, sp := 0xC0, npp := 0x6, psetf := true } 0x410).map
      (fun t => (t.pcp, t.pcs, t.sp, t.ramWord 0xBD, t.ramWord 0xBE)) = some (0x6, 0x10, 0xBD, 0xD, 0x2) := by decide
/-- A14: CALZ 10H. -/
theorem test_calz :
    (after { State.reset with pcp := 0xA, pcs := 0x2E, sp := 0xCA } 0x510).map
      (fun t => (t.pcp, t.pcs, t.sp, t.ramWord 0xC7, t.ramWord 0xC8)) = some (0x0, 0x10, 0xC7, 0xF, 0x2) := by decide
/-- A37: JP Z,10H. -/
theorem test_jpZ :
    (after { State.reset with
        pcp := 0x5, pcs := 0x4, b := 0x6, fz := true, nbp := 0x1, npp := 0xB, psetf := true } 0x610).map
      (fun t => (t.pcb, t.pcp, t.pcs, t.psetf)) = some (0x1, 0xB, 0x10, false) := by decide
/-- A35: JP NZ,10H. -/
theorem test_jpNZ :
    (after { State.reset with pcb := 0x1, pcp := 0x0, pcs := 0x7, nbp := 0x1, npp := 0x0 } 0x710).map
      (fun t => (t.pcb, t.pcp, t.pcs)) = some (0x1, 0x0, 0x10) := by decide
/-- A63: LD Y,E1H. -/
theorem test_ldYE :
    (after { State.reset with yh := 0x1, yl := 0xC } 0x8E1).map
      (fun t => t.yhl) = some 0xE1 := by decide
/-- A38: LBPX MX,18H. -/
theorem test_lbpxMXE :
    (after { State.reset with
        xh := 0x1, xl := 0xE, ram := [(0x1E, 0x2), (0x1F, 0xF), (0x20, 0x0), (0x21, 0x7)] } 0x918).map
      (fun t => (t.xhl, t.ramWord 0x1E, t.ramWord 0x1F)) = some (0x20, 0x8, 0x1) := by decide
/-- A5: ADC XH,2. -/
theorem test_adcXHI :
    (after { State.reset with xh := 0x9, fc := true } 0xA02).map
      (fun t => (t.xh, t.fz, t.fc)) = some (0xC, false, false) := by decide
/-- A6: ADC XL,3. -/
theorem test_adcXLI :
    (after { State.reset with fz := true, fc := true } 0xA13).map
      (fun t => (t.xl, t.fz, t.fc)) = some (0x4, false, false) := by decide
/-- A7: ADC YH,3. -/
theorem test_adcYHI :
    (after { State.reset with yh := 0xA, fc := true } 0xA23).map
      (fun t => (t.yh, t.fz, t.fc)) = some (0xE, false, false) := by decide
/-- A8: ADC YL,3. -/
theorem test_adcYLI :
    (after { State.reset with yl := 0xA, fc := true } 0xA33).map
      (fun t => (t.yl, t.fz, t.fc)) = some (0xE, false, false) := by decide
/-- A17: CP XH,2. -/
theorem test_cpXHI :
    (after { State.reset with xh := 0x4, fc := true } 0xA42).map
      (fun t => (t.fz, t.fc)) = some (false, false) := by decide
/-- A18: CP XL,7. -/
theorem test_cpXLI :
    (after { State.reset with xl := 0x9 } 0xA57).map
      (fun t => (t.fz, t.fc)) = some (false, false) := by decide
/-- A19: CP YH,0AH. -/
theorem test_cpYHI :
    (after { State.reset with yh := 0xA, fc := true } 0xA6A).map
      (fun t => (t.fz, t.fc)) = some (true, false) := by decide
/-- A20: CP YL,5. -/
theorem test_cpYLI :
    (after { State.reset with yl := 0x4, fz := true } 0xA75).map
      (fun t => (t.fz, t.fc)) = some (false, true) := by decide
/-- A10: ADD A,MY. -/
theorem test_addRQ :
    (after { State.reset with
        a := 0x2, b := 0x4, xh := 0x4, yh := 0x5, fz := true, fc := true, ram := [(0x40, 0x7),
        (0x50, 0xD)] } 0xA83).map
      (fun t => (t.a, t.fz, t.fc)) = some (0xF, false, false) := by decide
/-- A4: ADC MY,A. -/
theorem test_adcRQ :
    (after { State.reset with
        a := 0x5, b := 0x1, xh := 0x4, yh := 0x5, fc := true, ram := [(0x40, 0x7), (0x50, 0xB)] } 0xA9C).map
      (fun t => (t.fz, t.fc, t.ramWord 0x50)) = some (false, true, 0x1) := by decide
/-- A37: SUB A,B. -/
theorem test_subRQ :
    (after { State.reset with pcp := 0x5, pcs := 0x2, a := 0x6, b := 0x6 } 0xAA1).map
      (fun t => (t.pcp, t.pcs, t.a, t.fz, t.fc)) = some (0x5, 0x3, 0x0, true, false) := by decide
/-- A99: SBC A,B. -/
theorem test_sbcRQ :
    (after { State.reset with
        a := 0xE, b := 0x2, xh := 0x4, yh := 0x5, fc := true, ram := [(0x40, 0x9), (0x50, 0x4)] } 0xAB1).map
      (fun t => (t.a, t.fz, t.fc)) = some (0xB, false, false) := by decide
/-- A12: AND MX,A. -/
theorem test_andRQ :
    (after { State.reset with a := 0x4, b := 0xB, xh := 0x4, yh := 0x5, ram := [(0x40, 0xA), (0x50, 0x2)] } 0xAC8).map
      (fun t => (t.fz, t.ramWord 0x40)) = some (true, 0x0) := by decide
/-- B7.7: OR A,B. -/
theorem test_orRQ :
    (after { State.reset with
        b := 0xA, xh := 0x4, yh := 0x5, fd := true, fc := true, fz := true, ram := [(0x40, 0x5),
        (0x50, 0xF)] } 0xAD1).map
      (fun t => (t.a, t.fz, t.fc)) = some (0xA, false, true) := by decide
/-- A109: XOR A,MY. -/
theorem test_xorRQ :
    (after { State.reset with a := 0x4, b := 0xF, xh := 0x4, yh := 0x5, ram := [(0x40, 0x7), (0x50, 0x8)] } 0xAE3).map
      (fun t => (t.a, t.fz)) = some (0xC, false) := by decide
/-- A94: RLC A. -/
theorem test_rlcR :
    (after { State.reset with a := 0x3, fc := true } 0xAF0).map
      (fun t => (t.a, t.fc)) = some (0x7, false) := by decide
/-- A59: LD X,6FH. -/
theorem test_ldXE :
    (after { State.reset with xl := 0xB } 0xB6F).map
      (fun t => t.xhl) = some 0x6F := by decide
/-- A9: ADD A,5. -/
theorem test_addRI :
    (after { State.reset with a := 0xA, yh := 0x5, fc := true, ram := [(0x50, 0x6)] } 0xC05).map
      (fun t => (t.a, t.fz, t.fc)) = some (0xF, false, false) := by decide
/-- A3: ADC MX,3. -/
theorem test_adcRI :
    (after { State.reset with b := 0x9, xh := 0x4, fz := true, fc := true, ram := [(0x40, 0x4)] } 0xC63).map
      (fun t => (t.fz, t.fc, t.ramWord 0x40)) = some (false, false, 0x8) := by decide
/-- A11: AND A,5. -/
theorem test_andRI :
    (after { State.reset with a := 0x6, xh := 0x4, fc := true, ram := [(0x40, 0x8)] } 0xC85).map
      (fun t => (t.a, t.fz)) = some (0x4, false) := by decide
/-- A70: OR B,5. -/
theorem test_orRI :
    (after { State.reset with b := 0x4, xh := 0x4, ram := [(0x40, 0x3)] } 0xCD5).map
      (fun t => (t.b, t.fz)) = some (0x5, false) := by decide
/-- A108: XOR A,12. -/
theorem test_xorRI :
    (after { State.reset with a := 0x6, xh := 0x4, ram := [(0x40, 0x1)] } 0xD0C).map
      (fun t => (t.a, t.fz)) = some (0xA, false) := by decide
/-- A69: NOT A. -/
theorem test_notR :
    (after { State.reset with a := 0x9, yh := 0x5, ram := [(0x50, 0xF)] } 0xD0F).map
      (fun t => (t.a, t.fz)) = some (0x6, false) := by decide
/-- A98: SBC A,9. -/
theorem test_sbcRI :
    (after { State.reset with a := 0x8, yh := 0x5, ram := [(0x50, 0xE)] } 0xD49).map
      (fun t => (t.a, t.fz, t.fc)) = some (0xF, false, true) := by decide
/-- A25: FAN A,7. -/
theorem test_fanRI :
    (after { State.reset with a := 0x8, b := 0x4, yh := 0x5, fc := true, ram := [(0x50, 0x8)] } 0xD87).map
      (fun t => t.fz) = some true := by decide
/-- A15: CP A,4. -/
theorem test_cpRI :
    (after { State.reset with a := 0x4, b := 0xA, xh := 0x4, fc := true, ram := [(0x40, 0x2)] } 0xDC4).map
      (fun t => (t.fz, t.fc)) = some (true, false) := by decide
/-- A47: LD A,6. -/
theorem test_ldRI :
    (after { State.reset with a := 0x5, yh := 0x5, ram := [(0x50, 0x9)] } 0xE06).map
      (fun t => t.a) = some 0x6 := by decide
/-- A13: PSET 06H. -/
theorem test_pset :
    (after { State.reset with pcp := 0x3, pcs := 0x2B, sp := 0xC0 } 0xE46).map
      (fun t => (t.pcp, t.pcs)) = some (0x3, 0x2C) := by decide
/-- A43: LDPX MX,7. -/
theorem test_ldpxMXI :
    (after { State.reset with xh := 0x8, xl := 0x3, ram := [(0x83, 0x2), (0x84, 0x9)] } 0xE67).map
      (fun t => (t.xhl, t.ramWord 0x83)) = some (0x84, 0x7) := by decide
/-- A45: LDPY MY,7. -/
theorem test_ldpyMYI :
    (after { State.reset with yh := 0x2, yl := 0xD, ram := [(0x2D, 0xA), (0x2E, 0x2)] } 0xE77).map
      (fun t => (t.yhl, t.ramWord 0x2D)) = some (0x2E, 0x7) := by decide
/-- A62: LD XP,B. -/
theorem test_ldXPR :
    (after { State.reset with b := 0x1, xp := 0x9, xh := 0x4, ram := [(0x140, 0xB), (0x940, 0xB)] } 0xE81).map
      (fun t => t.xp) = some 0x1 := by decide
/-- A60: LD XH,A. -/
theorem test_ldXHR :
    (after { State.reset with a := 0xB, yh := 0x5, ram := [(0x50, 0x6)] } 0xE84).map
      (fun t => t.xh) = some 0xB := by decide
/-- A61: LD XL,MY. -/
theorem test_ldXLR :
    (after { State.reset with a := 0xB, yh := 0x5, ram := [(0x50, 0x2)] } 0xE8B).map
      (fun t => t.xl) = some 0x2 := by decide
/-- A95: RRC MY. -/
theorem test_rrcR :
    (after { State.reset with yh := 0x5, fc := true, ram := [(0x50, 0xA)] } 0xE8F).map
      (fun t => (t.fc, t.ramWord 0x50)) = some (false, 0xD) := by decide
/-- A66: LD YP,MX. -/
theorem test_ldYPR :
    (after { State.reset with a := 0x4, xh := 0x4, yp := 0x3, ram := [(0x40, 0x0)] } 0xE92).map
      (fun t => t.yp) = some 0x0 := by decide
/-- A64: LD YH,B. -/
theorem test_ldYHR :
    (after { State.reset with b := 0x6, xh := 0x4, ram := [(0x40, 0x5)] } 0xE95).map
      (fun t => t.yh) = some 0x6 := by decide
/-- A65: LD YL,B. -/
theorem test_ldYLR :
    (after { State.reset with b := 0xA, xh := 0x4, yl := 0xB, ram := [(0x40, 0x7)] } 0xE99).map
      (fun t => t.yl) = some 0xA := by decide
/-- A53: LD MX,XP. -/
theorem test_ldRXP :
    (after { State.reset with a := 0x2, xp := 0xF, xh := 0x4, ram := [(0xF40, 0x5)] } 0xEA2).map
      (fun t => t.ramWord 0xF40) = some 0xF := by decide
/-- A51: LD B,XH. -/
theorem test_ldRXH :
    (after { State.reset with b := 0x2, xh := 0xA, ram := [(0xA0, 0x0)] } 0xEA5).map
      (fun t => t.b) = some 0xA := by decide
/-- A52: LD MY,XL. -/
theorem test_ldRXL :
    (after { State.reset with a := 0xD, yh := 0x5, ram := [(0x50, 0x1)] } 0xEAB).map
      (fun t => t.ramWord 0x50) = some 0x0 := by decide
/-- A56: LD MY,YP. -/
theorem test_ldRYP :
    (after { State.reset with b := 0xC, yp := 0xA, yh := 0x5, ram := [(0xA50, 0x6)] } 0xEB3).map
      (fun t => t.ramWord 0xA50) = some 0xA := by decide
/-- A54: LD A,YH. -/
theorem test_ldRYH :
    (after { State.reset with a := 0xC, yh := 0xA, ram := [(0xA0, 0xE)] } 0xEB4).map
      (fun t => t.a) = some 0xA := by decide
/-- A55: LD B,YL. -/
theorem test_ldRYL :
    (after { State.reset with b := 0x6, xh := 0x4, ram := [(0x40, 0xB)] } 0xEB9).map
      (fun t => t.b) = some 0x0 := by decide
/-- A48: LD A,B. -/
theorem test_ldRQ :
    (after { State.reset with a := 0x2, yh := 0x5, ram := [(0x50, 0x6)] } 0xEC1).map
      (fun t => t.a) = some 0x0 := by decide
/-- A44: LDPX A,B. -/
theorem test_ldpxRQ :
    (after { State.reset with a := 0xA, b := 0xD, xh := 0x4, xl := 0x9, yh := 0x5, ram := [(0x50, 0x0)] } 0xEE1).map
      (fun t => (t.a, t.xhl)) = some (0xD, 0x4A) := by decide
/-- A30: INC X. -/
theorem test_incX :
    (after { State.reset with xh := 0xF, xl := 0xE, fc := true } 0xEE0).map
      (fun t => t.xhl) = some 0xFF := by decide
/-- A46: LDPY A,B. -/
theorem test_ldpyRQ :
    (after { State.reset with a := 0xA, b := 0x8, xh := 0x4, yh := 0x4, yl := 0x8, ram := [(0x40, 0x2)] } 0xEF1).map
      (fun t => (t.a, t.yhl)) = some (0x8, 0x49) := by decide
/-- A31: INC Y. -/
theorem test_incY :
    (after { State.reset with yh := 0xB, yl := 0x7, fc := true } 0xEF0).map
      (fun t => t.yhl) = some 0xB8 := by decide
/-- A16: CP A,B. -/
theorem test_cpRQ :
    (after { State.reset with a := 0x8, b := 0x4, yh := 0x5, ram := [(0x50, 0x7)] } 0xF01).map
      (fun t => (t.fz, t.fc)) = some (false, false) := by decide
/-- A26: FAN A,B. -/
theorem test_fanRQ :
    (after { State.reset with a := 0x8, b := 0xA, xh := 0x4, yh := 0x5, ram := [(0x40, 0x5), (0x50, 0xE)] } 0xF11).map
      (fun t => t.fz) = some false := by decide
/-- A1: ACPX MX,A. -/
theorem test_acpxMXR :
    (after { State.reset with
        a := 0x8, xh := 0xA, yh := 0x4, yl := 0x6, fc := true, ram := [(0x46, 0x4), (0xA0, 0x6),
        (0xA1, 0x3)] } 0xF28).map
      (fun t => (t.xhl, t.fz, t.fc, t.ramWord 0xA0)) = some (0xA1, false, false, 0xF) := by decide
/-- A2: ACPY MY,A. -/
theorem test_acpyMYR :
    (after { State.reset with
        a := 0x2, xh := 0x2, xl := 0x1, yl := 0xE, fc := true, ram := [(0xE, 0x8), (0xF, 0x4),
        (0x21, 0x6)] } 0xF2C).map
      (fun t => (t.yhl, t.fz, t.fc, t.ramWord 0xE)) = some (0xF, false, false, 0xB) := by decide
/-- A101: SCPX MX,B. -/
theorem test_scpxMXR :
    (after { State.reset with b := 0x2, xh := 0x5, ram := [(0x50, 0x6)] } 0xF39).map
      (fun t => (t.xhl, t.fz, t.fc, t.ramWord 0x50)) = some (0x51, false, false, 0x4) := by decide
/-- A102: SCPY MY,A. -/
theorem test_scpyMYR :
    (after { State.reset with
        a := 0x2, yh := 0xF, yl := 0xF, fz := true, fc := true, ram := [(0xFF, 0x7)] } 0xF3C).map
      (fun t => (t.yhl, t.fz, t.fc, t.ramWord 0xFF)) = some (0x0, false, false, 0x4) := by decide
/-- A104: SET F,0DH. -/
theorem test_setF :
    (after { State.reset with fz := true, fc := true } 0xF4D).map
      (fun t => (t.fi, t.fd, t.fc, t.idelay)) = some (true, true, true, true) := by decide
/-- A100: SCF. -/
theorem test_scf :
    (after State.reset 0xF41).map
      (fun t => t.fc) = some true := by decide
/-- A107: SZF. -/
theorem test_szf :
    (after State.reset 0xF42).map
      (fun t => t.fz) = some true := by decide
/-- A103: SDF. -/
theorem test_sdf :
    (after State.reset 0xF44).map
      (fun t => t.fd) = some true := by decide
/-- A24: EI. -/
theorem test_ei :
    (after { State.reset with fc := true } 0xF48).map
      (fun t => (t.fi, t.idelay)) = some (true, true) := by decide
/-- A96: RST F,2. -/
theorem test_rstF :
    (after { State.reset with fi := true, fz := true } 0xF52).map
      (fun t => (t.fi, t.fd, t.fc)) = some (false, false, false) := by decide
/-- A23: DI. -/
theorem test_di :
    (after { State.reset with fi := true, fz := true } 0xF57).map
      (fun t => t.fi) = some false := by decide
/-- A90: RDF. -/
theorem test_rdf :
    (after { State.reset with a := 0x4, fd := true, fc := true } 0xF5B).map
      (fun t => t.fd) = some false := by decide
/-- A97: RZF. -/
theorem test_rzf :
    (after { State.reset with fz := true, fc := true } 0xF5D).map
      (fun t => t.fz) = some false := by decide
/-- A89: RCF. -/
theorem test_rcf :
    (after { State.reset with a := 0x1, fc := true } 0xF5E).map
      (fun t => t.fc) = some false := by decide
/-- A28: INC M1. -/
theorem test_incMn :
    (after { State.reset with fz := true, ram := [(0x1, 0x4), (0x3, 0xF), (0xD, 0x7)] } 0xF61).map
      (fun t => (t.fz, t.fc, t.ramWord 0x1)) = some (false, false, 0x5) := by decide
/-- A21: DEC M0. -/
theorem test_decMn :
    (after { State.reset with fc := true, ram := [(0x0, 0x9), (0x2, 0x0), (0xF, 0x1)] } 0xF70).map
      (fun t => (t.fz, t.fc, t.ramWord 0x0)) = some (false, false, 0x8) := by decide
/-- A41: LD M0AH,A. -/
theorem test_ldMnA :
    (after { State.reset with a := 0x6, ram := [(0xA, 0x4), (0xB, 0xB)] } 0xF8A).map
      (fun t => t.ramWord 0xA) = some 0x6 := by decide
/-- A42: LD M0,B. -/
theorem test_ldMnB :
    (after { State.reset with b := 0x4, ram := [(0x0, 0xB), (0x1, 0xF)] } 0xF90).map
      (fun t => t.ramWord 0x0) = some 0x4 := by decide
/-- A39: LD A,M5. -/
theorem test_ldAMn :
    (after { State.reset with a := 0x4, ram := [(0x5, 0xF), (0x6, 0x4)] } 0xFA5).map
      (fun t => t.a) = some 0xF := by decide
/-- A40: LD B,M7. -/
theorem test_ldBMn :
    (after { State.reset with b := 0x4, ram := [(0x7, 0x6), (0x8, 0xA)] } 0xFB7).map
      (fun t => t.b) = some 0x6 := by decide
/-- A82: PUSH A. -/
theorem test_pushR :
    (after { State.reset with a := 0x2, sp := 0xD0, ram := [(0xCF, 0x8)] } 0xFC0).map
      (fun t => (t.sp, t.ramWord 0xCF)) = some (0xCF, 0x2) := by decide
/-- A85: PUSH XP. -/
theorem test_pushXP :
    (after { State.reset with sp := 0xD0, ram := [(0xCF, 0x3)] } 0xFC4).map
      (fun t => (t.sp, t.ramWord 0xCF)) = some (0xCF, 0x0) := by decide
/-- A83: PUSH XH. -/
theorem test_pushXH :
    (after { State.reset with xh := 0x8, sp := 0xCC, ram := [(0xCB, 0x0)] } 0xFC5).map
      (fun t => (t.sp, t.ramWord 0xCB)) = some (0xCB, 0x8) := by decide
/-- A84: PUSH XL. -/
theorem test_pushXL :
    (after { State.reset with xl := 0x6, sp := 0xD0, ram := [(0xCF, 0xF)] } 0xFC6).map
      (fun t => (t.sp, t.ramWord 0xCF)) = some (0xCF, 0x6) := by decide
/-- A88: PUSH YP. -/
theorem test_pushYP :
    (after { State.reset with sp := 0xC0, ram := [(0xBF, 0xF)] } 0xFC7).map
      (fun t => (t.sp, t.ramWord 0xBF)) = some (0xBF, 0x0) := by decide
/-- A86: PUSH YH. -/
theorem test_pushYH :
    (after { State.reset with yh := 0x1, sp := 0xBF, ram := [(0xBE, 0x4)] } 0xFC8).map
      (fun t => (t.sp, t.ramWord 0xBE)) = some (0xBE, 0x1) := by decide
/-- A87: PUSH YL. -/
theorem test_pushYL :
    (after { State.reset with yl := 0x7, sp := 0xD0, ram := [(0xCF, 0x1)] } 0xFC9).map
      (fun t => (t.sp, t.ramWord 0xCF)) = some (0xCF, 0x7) := by decide
/-- A81: PUSH F. -/
theorem test_pushF :
    (after { State.reset with sp := 0xD0, fc := true, ram := [(0xCF, 0x4)] } 0xFCA).map
      (fun t => (t.sp, t.ramWord 0xCF)) = some (0xCF, 0x1) := by decide
/-- A22: DEC SP. -/
theorem test_decSP :
    (after { State.reset with sp := 0xB1, fz := true } 0xFCB).map
      (fun t => t.sp) = some 0xB0 := by decide
/-- A73: POP B. -/
theorem test_popR :
    (after { State.reset with b := 0x5, sp := 0xC0, ram := [(0xC0, 0x9)] } 0xFD1).map
      (fun t => (t.b, t.sp)) = some (0x9, 0xC1) := by decide
/-- A76: POP XP. -/
theorem test_popXP :
    (after { State.reset with xp := 0x7, sp := 0xB4, ram := [(0xB4, 0x5)] } 0xFD4).map
      (fun t => (t.xp, t.sp)) = some (0x5, 0xB5) := by decide
/-- A74: POP XH. -/
theorem test_popXH :
    (after { State.reset with xh := 0x2, sp := 0xCE, ram := [(0xCE, 0x6)] } 0xFD5).map
      (fun t => (t.xh, t.sp)) = some (0x6, 0xCF) := by decide
/-- A75: POP XL. -/
theorem test_popXL :
    (after { State.reset with xl := 0xD, sp := 0xC0, ram := [(0xC0, 0x1)] } 0xFD6).map
      (fun t => (t.xl, t.sp)) = some (0x1, 0xC1) := by decide
/-- A79: POP YP. -/
theorem test_popYP :
    (after { State.reset with yp := 0x1, sp := 0xC0, ram := [(0xC0, 0x0)] } 0xFD7).map
      (fun t => (t.yp, t.sp)) = some (0x0, 0xC1) := by decide
/-- A77: POP YH. -/
theorem test_popYH :
    (after { State.reset with yh := 0x2, sp := 0xC1, ram := [(0xC1, 0xD)] } 0xFD8).map
      (fun t => (t.yh, t.sp)) = some (0xD, 0xC2) := by decide
/-- A78: POP YL. -/
theorem test_popYL :
    (after { State.reset with yl := 0x5, sp := 0xCA, ram := [(0xCA, 0x4)] } 0xFD9).map
      (fun t => (t.yl, t.sp)) = some (0x4, 0xCB) := by decide
/-- A72: POP F. -/
theorem test_popF :
    (after { State.reset with sp := 0xC0, fc := true, ram := [(0xC0, 0x9)] } 0xFDA).map
      (fun t => (t.sp, t.fi, t.fd, t.fz, t.fc)) = some (0xC1, true, false, false, true) := by decide
/-- A29: INC SP. -/
theorem test_incSP :
    (after { State.reset with sp := 0xEF } 0xFDB).map
      (fun t => t.sp) = some 0xF0 := by decide
/-- A93: RETS. -/
theorem test_rets :
    (after { State.reset with
        pcp := 0x6, pcs := 0x90, sp := 0xB0, ram := [(0xB0, 0x6), (0xB1, 0x0), (0xB2, 0x0)] } 0xFDE).map
      (fun t => (t.pcb, t.pcp, t.pcs, t.sp)) = some (0x0, 0x0, 0x7, 0xB3) := by decide
/-- A91: RET. -/
theorem test_ret :
    (after { State.reset with
        pcp := 0xD, pcs := 0x8D, sp := 0xBD, ram := [(0xBD, 0xD), (0xBE, 0x2), (0xBF, 0x2)] } 0xFDF).map
      (fun t => (t.pcb, t.pcp, t.pcs, t.sp)) = some (0x0, 0x2, 0x2D, 0xC0) := by decide
/-- A57: LD SPH,A. -/
theorem test_ldSPHR :
    (after { State.reset with a := 0x3, yh := 0x5, sp := 0x90, ram := [(0x50, 0xC)] } 0xFE0).map
      (fun t => t.sp.extractLsb' 4 4) = some 0x3 := by decide
/-- A49: LD MX,SPH. -/
theorem test_ldRSPH :
    (after { State.reset with xh := 0x4, sp := 0x70, ram := [(0x40, 0xC)] } 0xFE6).map
      (fun t => t.ramWord 0x40) = some 0x7 := by decide
/-- A32: JPBA. -/
theorem test_jpba :
    (after { State.reset with pcp := 0x8, pcs := 0x91, a := 0x6, nbp := 0x1, npp := 0x5, psetf := true } 0xFE8).map
      (fun t => (t.pcb, t.pcp, t.pcs, t.psetf)) = some (0x1, 0x5, 0x6, false) := by decide
/-- A58: LD SPL,B. -/
theorem test_ldSPLR :
    (after { State.reset with b := 0x7, xh := 0x4, sp := 0xB, ram := [(0x40, 0xF)] } 0xFF1).map
      (fun t => t.sp.extractLsb' 0 4) = some 0x7 := by decide
/-- A50: LD A,SPL. -/
theorem test_ldRSPL :
    (after { State.reset with a := 0x2, yh := 0x5, sp := 0x9, ram := [(0x50, 0x0)] } 0xFF4).map
      (fun t => t.a) = some 0x9 := by decide
/-- A27: HALT. -/
theorem test_halt :
    (after { State.reset with pcs := 0x33, sp := 0xC0, fi := true } 0xFF8).map
      (fun t => (t.pcb, t.pcp, t.pcs, t.runState)) = some (0x0, 0x1, 0x34, .halt) := by decide
/-- A105: SLP. -/
theorem test_slp :
    (after { State.reset with pcp := 0x4, pcs := 0x30, sp := 0xC0, fi := true } 0xFF9).map
      (fun t => (t.pcb, t.pcp, t.pcs, t.runState)) = some (0x0, 0x4, 0x31, .sleep) := by decide
/-- A67: NOP5. -/
theorem test_nop5 :
    (after { State.reset with pcp := 0x3, pcs := 0x13 } 0xFFB).map
      (fun t => (t.pcb, t.pcp, t.pcs)) = some (0x0, 0x3, 0x14) := by decide
/-- A68: NOP7. -/
theorem test_nop7 :
    (after { State.reset with pcp := 0xA, pcs := 0x99 } 0xFFF).map
      (fun t => (t.pcb, t.pcp, t.pcs)) = some (0x0, 0xA, 0x9A) := by decide


/-! ### What happens at a boundary -/

/-- A state whose next boundary has the given inputs. -/
def asked (s : State) (reset : Bool) (irq : Option (Fin 15)) : State :=
  { s with inputs := [{ reset := reset, irq := irq }] }

/-- The state after a step, if there is one. -/
def stepped (s : State) : Option State :=
  match step s with
  | .next t => some t
  | .fault _ => none
  | .refused _ => none

/-- T11 step 1: vector 15 taken at 0:0:00 with SP = 03H. -/
theorem test_interrupt_entry :
    (stepped (asked { State.reset with pcp := 0x0, pcs := 0x00, sp := 0x03, fi := true } false (some 14))).map
      (fun t => (t.pc12, t.sp, t.fi, t.ramWord 0x000, t.ramWord 0x001, t.ramWord 0x002)) =
        some (0x10F, 0x00, false, 0x0, 0x0, 0x0) := by decide

/-- A27: vector 2 taken out of HALT at 0:1:34. -/
theorem test_interrupt_leaves_halt :
    (stepped (asked { State.reset with pcs := 0x34, sp := 0xC0, fi := true, runState := .halt } false (some 1))).map
      (fun t => (t.runState, t.pcs, t.sp, t.ramWord 0xBD, t.ramWord 0xBE)) =
        some (.run, 0x02, 0xBD, 0x4, 0x3) := by decide

/-- T6: HALT with I = 0 is not left by a request. -/
theorem test_halt_without_ei_stays :
    (stepped (asked { State.reset with pcs := 0x11, runState := .halt } false (some 0))).map
      (fun t => (t.runState, t.pcs, t.ram.isEmpty)) = some (.halt, 0x11, true) := by decide

/-- T1 step 1: right after EI the request waits for one instruction. -/
theorem test_ei_delay :
    (stepped (asked ({ State.reset with fi := true, idelay := true }.withFetchWord 16 0xFFB) false (some 2))).map
      (fun t => (t.fi, t.idelay, t.pcs)) = some (true, false, 0x01) := by decide

/-- T4 step 1: right after PSET the request waits for the jump. -/
theorem test_pset_delay :
    (stepped (asked ({ State.reset with fi := true, psetf := true, nbp := 0x1, npp := 0x3 }.withFetchWord 16 0x020)
      false (some 4))).map (fun t => (t.pcb, t.pcp, t.pcs, t.fi)) = some (0x1, 0x3, 0x20, true) := by decide

/-- T13 step 5: reset wins over a request, in HALT. -/
theorem test_reset_in_halt :
    (stepped (asked { State.reset with pcs := 0x14, fi := true, runState := .halt, ram := [(0, 0x5)] } true
      (some 1))).map (fun t => (t.pcb, t.pcp, t.pcs, t.fi, t.runState, t.ram.isEmpty)) =
        some (0x0, 0x1, 0x00, false, .run, true) := by decide

/-- T20, T21, T22: a word of R104, an RLC word of R105, and no ROM. -/
theorem test_fetch_stops :
    step (State.reset.withFetchWord 16 0xF20) = .fault (.undefinedOpcode 0xF20) ∧
    step (State.reset.withFetchWord 16 0xAF1) = .fault (.rlcFields 0xAF1) ∧
    step State.reset = .fault (.romUnmapped 0x0100) := ⟨rfl, rfl, rfl⟩

/-- F48H is EI and SET F,8: a device that lacks EI alone faults on it, one that lacks SET F alone runs it (the model's
choice, log entry 18; the spec gives no expected result). -/
theorem test_subset_counts_the_alias :
    let lack (i : Instr) : State :=
      { State.reset with device := { Device.closed with lacking := [i.row] } }.withFetchWord 16 0xF48
    (stepped (lack .ei)).isNone = true ∧ (stepped (lack (.setF 8))).isSome = true := by decide

/-- The clock counts that differ from 5 and 7 (R102). -/
theorem test_clocks : (Instr.retd 0x00).clocks = 12 ∧ Instr.rets.clocks = 12 ∧ Instr.nop7.clocks = 7 := by decide

/-! ### States that meet the hypotheses of the statements -/

/-- A state of the closed system with MX at 123H and MY at 4FFH. -/
def ready : State :=
  { State.reset with
    xp := 0x1, xh := 0x2, xl := 0x3, yp := 0x4, yh := 0xF, yl := 0xF, sp := 0x80, nbp := 0x1, npp := 0x5 }

/-- A device with one region of each kind, and without LD X,e. -/
def board : Device :=
  { variant := .e0c6200
    dmemMap :=
      [{ first := 0x010, last := 0x01F, kind := .unmapped }, { first := 0x020, last := 0x02F, kind := .peripheral },
       { first := 0xF00, last := 0xF03, kind := .interruptMask },
       { first := 0xF04, last := 0xF07, kind := .interruptFactor }]
    lacking := [(Instr.ldXE 0x00).row] }

/-- Where all is RAM every address can be read. -/
theorem ready_reads (addr : DataAddr) : ready.CanRead addr := rfl

/-- Where all is RAM every address can be written. -/
theorem ready_writes (addr : DataAddr) : ready.CanWrite addr := rfl

/-- Where all is RAM every operand can be read. -/
theorem ready_readOperand (r : Reg) : ready.CanReadOperand r := fun addr _ => ready_reads addr

/-- Where all is RAM every operand can be written. -/
theorem ready_writeOperand (r : Reg) : ready.CanWriteOperand r := fun addr _ => ready_writes addr

theorem witness_JumpsGoWhereTheySay :
    (ready.psetf = false ∧ ready.fc = false ∧ ready.fz = false) ∧
    ({ ready with psetf := true, fc := true, fz := true }.psetf = true ∧
      { ready with psetf := true, fc := true, fz := true }.fc = true ∧
      { ready with psetf := true, fc := true, fz := true }.fz = true) := by decide

theorem witness_CallPushesTheReturnAddress : ready.CanPushReturn := ⟨rfl, rfl, rfl⟩

theorem witness_CalzCallsPageZero : { ready with sp := 0x01, psetf := true }.CanPushReturn := ⟨rfl, rfl, rfl⟩

theorem witness_RetAndRetsPopTheReturnAddress : { ready with sp := 0xFE }.CanPopReturn := ⟨rfl, rfl, rfl⟩

/-- Both clauses: the stores away from the stack, and overlapping it at either end. -/
theorem witness_RetdStoresTwoWordsAndReturns :
    (ready.CanPopReturn ∧ ready.CanWrite ready.ix ∧ ready.CanWrite ready.ixNext ∧ ready.retdOverlaps = false) ∧
    ({ ready with sp := 0x24, xp := 0x0 }.CanPopReturn ∧
      { ready with sp := 0x24, xp := 0x0 }.CanWrite { ready with sp := 0x24, xp := 0x0 }.ix ∧
      { ready with sp := 0x24, xp := 0x0 }.CanWrite { ready with sp := 0x24, xp := 0x0 }.ixNext ∧
      { ready with sp := 0x24, xp := 0x0 }.ixNext = stackAddr 0x24) ∧
    { ready with sp := 0x21, xp := 0x0 }.ix = stackAddr (0x21 + 2) :=
  ⟨⟨⟨rfl, rfl, rfl⟩, rfl, rfl, rfl⟩, ⟨⟨rfl, rfl, rfl⟩, rfl, rfl, rfl⟩, rfl⟩

/-- The last clause: stopped in HALT with a request that I = 0 does not accept, and in SLEEP with none. -/
theorem witness_HaltAndSlpStopUntilAnInterrupt :
    ((asked { ready with runState := .halt } false (some 3)).runState ≠ .run ∧
      (asked { ready with runState := .halt } false (some 3)).nextInput.reset = false ∧
      (asked { ready with runState := .halt } false (some 3)).acceptsInterrupt = false) ∧
    ({ ready with runState := .sleep, fi := true }.runState ≠ .run ∧
      { ready with runState := .sleep, fi := true }.nextInput.reset = false ∧
      { ready with runState := .sleep, fi := true }.nextInput.irq = none) := by decide

theorem witness_LoadPartOfIndexFromOperand : ready.CanReadOperand .mx := ready_readOperand .mx

theorem witness_LoadOperandFromPartOfIndex : ready.CanWriteOperand .my := ready_writeOperand .my

theorem witness_LoadImmediate : ready.CanWriteOperand .mx := ready_writeOperand .mx

theorem witness_LoadRegister : ready.CanReadOperand .my ∧ ready.CanWriteOperand .mx :=
  ⟨ready_readOperand .my, ready_writeOperand .mx⟩

theorem witness_DirectLoadsAndStores :
    ready.CanRead (directAddr 0x0) ∧ ready.CanRead (directAddr 0xF) ∧ ready.CanWrite (directAddr 0x0) ∧
    ready.CanWrite (directAddr 0xF) := ⟨rfl, rfl, rfl, rfl⟩

theorem witness_StoreImmediateAndIncrement : ready.CanWrite ready.ix ∧ ready.CanWrite ready.iy := ⟨rfl, rfl⟩

theorem witness_MoveAndIncrement : ready.CanReadOperand .mx ∧ ready.CanWriteOperand .my :=
  ⟨ready_readOperand .mx, ready_writeOperand .my⟩

theorem witness_LbpxStoresAByteInTwoWords :
    { ready with xh := 0xF, xl := 0xF }.CanWrite { ready with xh := 0xF, xl := 0xF }.ix ∧
    { ready with xh := 0xF, xl := 0xF }.CanWrite { ready with xh := 0xF, xl := 0xF }.ixNext := ⟨rfl, rfl⟩

/-- The clauses on IDELAY: i3 = 1 with I = 0, and i3 = 0. -/
theorem witness_SetFlagsImmediate :
    ((0x8 : Nibble).getLsbD 3 = true ∧ ready.fi = false) ∧ (0x7 : Nibble).getLsbD 3 = false := by decide

theorem witness_ResetFlagsImmediate : (0x7 : Nibble).getLsbD 3 = false := by decide

theorem witness_EiEnablesAfterOneMoreInstruction : ready.fi = false := rfl

theorem witness_PushOperand : ready.CanReadOperand .mx ∧ ready.CanWrite (stackAddr (ready.sp - 1)) :=
  ⟨ready_readOperand .mx, rfl⟩

theorem witness_PushPartOfIndexOrFlags :
    { ready with sp := 0x00 }.CanWrite (stackAddr ({ ready with sp := 0x00 }.sp - 1)) := rfl

theorem witness_PopOperand : ready.CanRead (stackAddr ready.sp) ∧ ready.CanWriteOperand .my :=
  ⟨rfl, ready_writeOperand .my⟩

theorem witness_PopPartOfIndex : { ready with sp := 0xFF }.CanRead (stackAddr { ready with sp := 0xFF }.sp) := rfl

/-- Both clauses on IDELAY: I turned from 0 to 1, and not. -/
theorem witness_PopFlags :
    ready.CanRead (stackAddr ready.sp) ∧
    ({ ready with ram := [(0x80, 0x8)] }.fi = false ∧
      ({ ready with ram := [(0x80, 0x8)] }.readValue (stackAddr 0x80)).getLsbD 3 = true) ∧
    ({ ready with ram := [(0x80, 0x7)] }.readValue (stackAddr 0x80)).getLsbD 3 = false := by
  refine ⟨rfl, ⟨rfl, ?_⟩, ?_⟩ <;> decide

theorem witness_LoadHalfOfSPFromOperand : ready.CanReadOperand .my := ready_readOperand .my

theorem witness_LoadOperandFromHalfOfSP : ready.CanWriteOperand .mx := ready_writeOperand .mx

theorem witness_AddAndSubtractRegister :
    ready.CanReadOperand .mx ∧ ready.CanReadOperand .my ∧ ready.CanWriteOperand .mx :=
  ⟨ready_readOperand .mx, ready_readOperand .my, ready_writeOperand .mx⟩

theorem witness_AddAndSubtractImmediate : ready.CanReadOperand .my ∧ ready.CanWriteOperand .my :=
  ⟨ready_readOperand .my, ready_writeOperand .my⟩

theorem witness_LogicRegister :
    ready.CanReadOperand .my ∧ ready.CanReadOperand .my ∧ ready.CanWriteOperand .my :=
  ⟨ready_readOperand .my, ready_readOperand .my, ready_writeOperand .my⟩

theorem witness_LogicImmediate : ready.CanReadOperand .mx ∧ ready.CanWriteOperand .mx :=
  ⟨ready_readOperand .mx, ready_writeOperand .mx⟩

theorem witness_CompareOperand : ready.CanReadOperand .mx ∧ ready.CanReadOperand .my :=
  ⟨ready_readOperand .mx, ready_readOperand .my⟩

theorem witness_TestOperandBits : ready.CanReadOperand .my ∧ ready.CanReadOperand .mx :=
  ⟨ready_readOperand .my, ready_readOperand .mx⟩

theorem witness_RotateThroughCarry : ready.CanReadOperand .mx ∧ ready.CanWriteOperand .mx :=
  ⟨ready_readOperand .mx, ready_writeOperand .mx⟩

theorem witness_IncrementAndDecrementDirect :
    ready.CanRead (directAddr 0xF) ∧ ready.CanWrite (directAddr 0xF) := ⟨rfl, rfl⟩

theorem witness_MemoryArithmeticAndIncrement :
    ready.CanReadOperand .my ∧ (ready.CanRead ready.ix ∧ ready.CanWrite ready.ix) ∧
    (ready.CanRead ready.iy ∧ ready.CanWrite ready.iy) := ⟨ready_readOperand .my, ⟨rfl, rfl⟩, rfl, rfl⟩

theorem witness_DecodeOfEncode : (.rlcR .my : Instr).WellFormed ∧ (.notR .my : Instr).WellFormed := by decide

/-- A running state with JP 08H at its program counter, and a request it does not accept. -/
theorem witness_StepRunsTheDecodedInstruction :
    (asked (ready.withFetchWord 16 0x008) false (some 0)).nextInput.reset = false ∧
    (asked (ready.withFetchWord 16 0x008) false (some 0)).acceptsInterrupt = false ∧
    (ready.withFetchWord 16 0x008).runState = .run ∧
    (ready.withFetchWord 16 0x008).rom.lookup (ready.withFetchWord 16 0x008).pc.toNat = some 0x008 ∧
    decode 0x008 = .ok (.jp 0x08) ∧ (Instr.jp 0x08).row ∉ (ready.withFetchWord 16 0x008).device.lacking := by decide

/-- Each clause: no ROM, the first and last word of R104, an RLC word, an instruction the device lacks. -/
theorem witness_FetchStopsByName :
    (ready.nextInput.reset = false ∧ ready.nextInput.irq = none ∧ ready.runState = .run ∧
      ready.rom.lookup ready.pc.toNat = none) ∧
    (decode 0xE9C = .error .undefinedWord ∧ decode 0xFFE = .error .undefinedWord ∧
      (ready.withFetchWord 16 0xFFE).rom.lookup ready.pc.toNat = some 0xFFE) ∧
    (decode 0xAF1 = .error .rlcFields ∧ (ready.withFetchWord 16 0xAF1).rom.lookup ready.pc.toNat = some 0xAF1) ∧
    (decode 0xB00 = .ok (.ldXE 0x00) ∧
      ({ ready with device := board }.withFetchWord 16 0xB00).rom.lookup ready.pc.toNat = some 0xB00 ∧
      (Instr.ldXE 0x00).row ∈ board.lacking) := by decide

theorem witness_ResetInputResetsInAnyState :
    (asked { ready with runState := .sleep, fi := true } true (some 0)).nextInput.reset = true := rfl

/-- The least and the greatest vector. -/
theorem witness_AcceptedInterruptIsEntered :
    (∀ v : Fin 15, (asked { ready with fi := true } false (some v)).nextInput.reset = false ∧
      (asked { ready with fi := true } false (some v)).nextInput.irq = some v) ∧
    { ready with fi := true }.idelay = false ∧ { ready with fi := true }.psetf = false ∧
    { ready with fi := true }.CanPushReturn := ⟨fun _ => ⟨rfl, rfl⟩, rfl, rfl, rfl, rfl, rfl⟩

/-- Each of the three reasons. -/
theorem witness_InterruptIsWithheld :
    ((asked ready false (some 0)).nextInput.irq = some 0 ∧ (asked ready false (some 0)).fi = false) ∧
    ((asked { ready with fi := true, idelay := true } false (some 14)).nextInput.irq = some 14 ∧
      { ready with fi := true, idelay := true }.idelay = true) ∧
    ((asked { ready with fi := true, psetf := true } false (some 7)).nextInput.irq = some 7 ∧
      { ready with fi := true, psetf := true }.psetf = true) := by decide

/-- Each kind at the first and the last address of a region, and RAM at both sides of one. -/
theorem witness_DataMemoryReadsAndWrites :
    (kindAt board 0x010 = .unmapped ∧ kindAt board 0x01F = .unmapped) ∧
    (kindAt board 0x00F = .ram ∧ kindAt board 0x030 = .ram ∧ kindAt board 0xFFF = .ram) ∧
    (kindAt board 0x020 = .peripheral ∧ kindAt board 0x02F = .peripheral) := by decide

/-- Each kind at the first and the last address, refused with I = 1 and allowed with I = 0. -/
theorem witness_InterruptRegistersOfTheE0C6200 :
    (kindAt board 0xF00 = .interruptMask ∧ kindAt board 0xF03 = .interruptMask) ∧
    (kindAt board 0xF04 = .interruptFactor ∧ kindAt board 0xF07 = .interruptFactor) ∧
    (board.variant = .e0c6200 ∧ { ready with fi := true, device := board }.fi = true) ∧
    { ready with device := board }.fi = false ∧ ready.device.variant = .e0c6200A := by decide

/-- All RAM; and, on a board, LD A,MX at an unmapped address and at an interrupt factor flag with I = 1. -/
theorem witness_InstructionsStopOnlyAtDataAccesses :
    ready.device.dmemMap = [] ∧
    exec (.ldRQ .a .mx) { ready with device := board, xp := 0x0, xh := 0x1, xl := 0x0 } =
      .fault (.dmemUnmapped 0x010) ∧
    exec (.ldRQ .a .mx) { ready with device := board, xp := 0xF, xh := 0x0, xl := 0x7, fi := true } =
      .refused (.interruptRegisterAtEI 0xF07) := ⟨rfl, rfl, rfl⟩

/-- A state of the invariant other than the reset state: RAM and ROM written, in HALT, about to be left. -/
def busy : State :=
  asked { ready with ram := [(0x7D, 0x2), (0x123, 0x9)], rom := [(0x100, 0xFFB), (0x1FFF, 0xFFF)],
                     fi := true, runState := .halt } false (some 2)

theorem busy_inv : busy.Inv where
  ramForm := rfl
  romForm := rfl
  ramIsRam _ _ := rfl
  delayNeedsI h := by cases h
  oneShadow h := by cases h.1
  stoppedClean _ := ⟨rfl, rfl⟩

/-- The interrupt that leaves HALT answers a next state. -/
theorem witness_EveryStepKeepsTheInvariant : busy.Inv ∧ (stepped busy).isSome = true := ⟨busy_inv, by decide⟩

theorem witness_ProgramAndDeviceNeverChange : (stepped (ready.withFetchWord 16 0xFFB)).isSome = true := by decide

/-- JP right after PSET 15H changes the bank. -/
theorem witness_OnlyJumpsAfterPsetChangeTheBank :
    ∃ t, exec (.jp 0x08) { ready with psetf := true } = .next t ∧ t.pcb ≠ ready.pcb :=
  ⟨_, rfl, by decide⟩

theorem witness_PsetfIsSetByPsetAlone :
    (∃ t, exec (.pset 0x15) ready = .next t ∧ t.psetf = true) ∧
    (∃ t, exec .nop5 { ready with psetf := true } = .next t ∧ t.psetf = false) := ⟨⟨_, rfl, rfl⟩, _, rfl, rfl⟩

/-- Each of the four changes happens. -/
theorem witness_WhoWritesInterruptAndDecimalFlags :
    (∃ t, exec .ei ready = .next t ∧ t.fi ≠ ready.fi ∧ t.idelay = true) ∧
    (∃ t, exec .sdf ready = .next t ∧ t.fd ≠ ready.fd) ∧
    (∃ t, exec .halt ready = .next t ∧ t.runState ≠ ready.runState) :=
  ⟨⟨_, rfl, by decide, rfl⟩, ⟨_, rfl, by decide⟩, _, rfl, by decide⟩

end Sys2Proof.Tests
end

/-!
The statements of spec/10_state.md: who writes I, D, the hidden bits and RUNSTATE (R30, R41 to R43), which instruction
a step runs (R45), and the state right after reset (R34). The first rests on one case split over the instructions,
`exec_control`: all but ten leave these bits as `State.begun` does, as every shared operation they are made of leaves
them.
-/

namespace Sys2Proof.Machine

/-! ### The control bits -/

/-- The part of the state that few instructions write: the hidden bits, I, D and RUNSTATE (R30, R41 to R43). -/
structure Control where
  psetf    : Bool
  idelay   : Bool
  fi       : Bool
  fd       : Bool
  runState : RunState

/-- The control bits of a state. -/
def State.control (s : State) : Control :=
  { psetf := s.psetf, idelay := s.idelay, fi := s.fi, fd := s.fd, runState := s.runState }

@[simp] theorem State.control_psetf (s : State) : s.control.psetf = s.psetf := rfl
@[simp] theorem State.control_idelay (s : State) : s.control.idelay = s.idelay := rfl
@[simp] theorem State.control_fi (s : State) : s.control.fi = s.fi := rfl
@[simp] theorem State.control_fd (s : State) : s.control.fd = s.fd := rfl
@[simp] theorem State.control_runState (s : State) : s.control.runState = s.runState := rfl

/-- Control bits are known bit by bit. -/
theorem State.control_eq_iff (s : State) (c : Control) :
    s.control = c ↔
      s.psetf = c.psetf ∧ s.idelay = c.idelay ∧ s.fi = c.fi ∧ s.fd = c.fd ∧ s.runState = c.runState := by
  cases c
  simp [State.control]

@[simp] theorem State.afterRead_control (s : State) (addr : DataAddr) :
    (s.afterRead addr).control = s.control := by simp [State.control_eq_iff]
@[simp] theorem State.afterWrite_control (s : State) (addr : DataAddr) (v : Nibble) :
    (s.afterWrite addr v).control = s.control := by simp [State.control_eq_iff]
@[simp] theorem State.afterOperand_control (s : State) (r : Reg) :
    (s.afterOperand r).control = s.control := by simp [State.control_eq_iff]
@[simp] theorem State.afterPut_control (s : State) (r : Reg) (v : Nibble) :
    (s.afterPut r v).control = s.control := by simp [State.control_eq_iff]
@[simp] theorem State.afterSrc_control (s : State) (q : Src) :
    (s.afterSrc q).control = s.control := by simp [State.control_eq_iff]
@[simp] theorem State.nextPC_control (s : State) : s.nextPC.control = s.control := rfl
@[simp] theorem State.setPC12_control (s : State) (v : BitVec 12) : (s.setPC12 v).control = s.control := rfl
@[simp] theorem State.setSP_control (s : State) (v : BitVec 8) : (s.setSP v).control = s.control := rfl
@[simp] theorem State.bumpX_control (s : State) (k : BitVec 8) : (s.bumpX k).control = s.control := rfl
@[simp] theorem State.bumpY_control (s : State) : s.bumpY.control = s.control := rfl
@[simp] theorem State.latch_control (s : State) (x y : Nibble) : (s.latch x y).control = s.control := rfl
@[simp] theorem State.loadRP_control (s : State) (n : Nibble) : (s.loadRP n).control = s.control := rfl
@[simp] theorem State.setCZ_control (s : State) (c z : Bool) : (s.setCZ c z).control = s.control := rfl
@[simp] theorem State.setZ_control (s : State) (z : Bool) : (s.setZ z).control = s.control := rfl

/-- A jump that is taken only clears the hidden bits, as every instruction does. -/
@[simp] theorem State.jumpTo_control (s : State) (step : BitVec 8) : (s.jumpTo step).control = s.begun.control := by
  simp [State.control_eq_iff, State.jumpTo]

/-- So does a conditional jump, taken or not. -/
@[simp] theorem State.jumpIf_control (s : State) (cond : Bool) (step : BitVec 8) :
    (s.jumpIf cond step).control = s.begun.control := by
  unfold State.jumpIf
  split
  · exact s.jumpTo_control step
  · exact s.begun.nextPC_control

/-- So does a call, wherever its page comes from. -/
@[simp] theorem State.callPage_control (s : State) (p : Bool) : (s.callPage p).control = s.control := by
  simp [State.control_eq_iff]

/-! ### Computations that leave the control bits -/

/-- Every state the computation answers has these control bits. -/
def Gives (c : Control) (x : Res State) : Prop := ∀ t, x = .ok t → t.control = c

/-- Every state the computation answers beside a value has these control bits. -/
def GivesWith {α : Type} (c : Control) (x : Res (α × State)) : Prop := ∀ p, x = .ok p → p.2.control = c

section

variable {c : Control} {s t : State}

/-- The last state of a sequence is its answer. -/
theorem Gives.pure (h : s.control = c) : Gives c (pure s) := fun _ k => (Res.pure_ok _ _).1 k ▸ h

/-- A sequence keeps the control bits when both parts do. -/
theorem Gives.bind {x : Res State} {f : State → Res State} (hx : Gives c x)
    (hf : ∀ u, u.control = c → Gives c (f u)) : Gives c (x >>= f) := fun t h =>
  have ⟨u, hu, ht⟩ := (Res.bind_ok x f t).1 h
  hf u (hx u hu) t ht

/-- The same, when the first part gives a value too. -/
theorem GivesWith.bind {α : Type} {x : Res (α × State)} {f : α × State → Res State} (hx : GivesWith c x)
    (hf : ∀ p, p.2.control = c → Gives c (f p)) : Gives c (x >>= f) := fun t h =>
  have ⟨p, hp, ht⟩ := (Res.bind_ok x f t).1 h
  hf p (hx p hp) t ht

theorem GivesWith.memRead (h : s.control = c) (addr : DataAddr) : GivesWith c (s.memRead addr) := fun p hp => by
  obtain ⟨-, rfl⟩ := (State.memRead_ok _ _ _).1 hp
  simpa using h

theorem Gives.memWrite (h : s.control = c) (addr : DataAddr) (v : Nibble) : Gives c (s.memWrite addr v) :=
  fun t ht => by
    obtain ⟨-, rfl⟩ := (State.memWrite_ok _ _ _ _).1 ht
    simpa using h

theorem GivesWith.regRead (h : s.control = c) (r : Reg) : GivesWith c (s.regRead r) := fun p hp => by
  obtain ⟨-, rfl⟩ := (State.regRead_ok _ _ _).1 hp
  simpa using h

theorem Gives.regWrite (h : s.control = c) (r : Reg) (v : Nibble) : Gives c (s.regWrite r v) := fun t ht => by
  obtain ⟨-, rfl⟩ := (State.regWrite_ok _ _ _ _).1 ht
  simpa using h

theorem Gives.arith (h : s.control = c) (f : Nibble → Nibble → AluOut) (r : Reg) (q : Src) :
    Gives c (s.arith f r q) := fun t ht => by
  obtain ⟨-, -, -, rfl⟩ := (State.arith_ok _ _ _ _ _).1 ht
  simpa using h

theorem Gives.logic (h : s.control = c) (f : Nibble → Nibble → Nibble) (r : Reg) (q : Src) :
    Gives c (s.logic f r q) := fun t ht => by
  obtain ⟨-, -, -, rfl⟩ := (State.logic_ok _ _ _ _ _).1 ht
  simpa using h

theorem Gives.compare (h : s.control = c) (r : Reg) (q : Src) : Gives c (s.compare r q) := fun t ht => by
  obtain ⟨-, -, rfl⟩ := (State.compare_ok _ _ _ _).1 ht
  simpa using h

theorem Gives.testBits (h : s.control = c) (r : Reg) (q : Src) : Gives c (s.testBits r q) := fun t ht => by
  obtain ⟨-, -, rfl⟩ := (State.testBits_ok _ _ _ _).1 ht
  simpa using h

theorem Gives.arithMem (h : s.control = c) (f : Nibble → Nibble → AluOut) (addr : DataAddr) (r : Reg) :
    Gives c (s.arithMem f addr r) := fun t ht => by
  obtain ⟨-, -, -, rfl⟩ := (State.arithMem_ok _ _ _ _ _).1 ht
  simpa using h

theorem Gives.stepDirect (h : s.control = c) (f : Nibble → Nibble → AluOut) (n : Nibble) :
    Gives c (s.stepDirect f n) := fun t ht => by
  obtain ⟨-, -, rfl⟩ := (State.stepDirect_ok _ _ _ _).1 ht
  simpa using h

theorem Gives.move (h : s.control = c) (r q : Reg) : Gives c (s.move r q) := fun t ht => by
  obtain ⟨-, -, rfl⟩ := (State.move_ok _ _ _ _).1 ht
  simpa using h

theorem Gives.storePair (h : s.control = c) (e : BitVec 8) : Gives c (s.storePair e) := fun t ht => by
  obtain ⟨-, -, rfl⟩ := (State.storePair_ok _ _ _).1 ht
  simpa using h

theorem Gives.loadPart (h : s.control = c) {put : State → Nibble → State} (r : Reg)
    (hput : ∀ u v, (put u v).control = u.control) : Gives c (s.loadPart put r) := fun t ht => by
  obtain ⟨-, rfl⟩ := (State.loadPart_ok _ _ _ _).1 ht
  simpa [hput] using h

theorem Gives.storePart (h : s.control = c) (v : Nibble) (r : Reg) : Gives c (s.storePart v r) := fun t ht => by
  obtain ⟨-, rfl⟩ := (State.storePart_ok _ _ _ _).1 ht
  simpa using h

theorem Gives.pushValue (h : s.control = c) (v : Nibble) : Gives c (s.pushValue v) := fun t ht => by
  obtain ⟨-, rfl⟩ := (State.pushValue_ok _ _ _).1 ht
  simpa using h

theorem GivesWith.pop1 (h : s.control = c) : GivesWith c s.pop1 := fun p hp => by
  obtain ⟨-, rfl⟩ := (State.pop1_ok _ _).1 hp
  simpa using h

theorem Gives.popInto (h : s.control = c) {put : State → Nibble → State}
    (hput : ∀ u v, (put u v).control = u.control) : Gives c (s.popInto put) := fun t ht => by
  obtain ⟨-, rfl⟩ := (State.popInto_ok _ _ _).1 ht
  simpa [hput] using h

theorem Gives.pushRet (h : s.control = c) (ret : BitVec 12) : Gives c (s.pushRet ret) := fun t ht => by
  obtain ⟨-, rfl⟩ := (State.pushRet_ok _ _ _).1 ht
  simpa using h

theorem GivesWith.popRet (h : s.control = c) : GivesWith c s.popRet := fun p hp => by
  obtain ⟨-, rfl⟩ := (State.popRet_ok _ _).1 hp
  simpa using h

theorem Gives.returnFromStack (h : s.control = c) : Gives c s.returnFromStack := fun t ht => by
  obtain ⟨-, rfl⟩ := (State.returnFromStack_ok _ _).1 ht
  simpa using h

theorem Gives.retdPopThenStore (h : s.control = c) (e : BitVec 8) : Gives c (s.retdPopThenStore e) :=
  (GivesWith.popRet h).bind fun _ hp => (Gives.storePair hp e).bind fun _ hu => .pure hu

theorem Gives.retdStoreThenPop (h : s.control = c) (e : BitVec 8) : Gives c (s.retdStoreThenPop e) :=
  (Gives.storePair h e).bind fun _ hu => (GivesWith.popRet hu).bind fun _ hp => .pure hp

/-! ### Instructions that leave the control bits -/

/-- An instruction answers the state its meaning gives. -/
theorem Gives.finish {x : Res State} (h : finish x = .next t) (hx : Gives c x) : t.control = c :=
  hx t ((finish_next x t).1 h)

/-- An instruction that cannot stop answers its one state. -/
theorem control_of_next (h : (.next s : Host.Outcome State Fault Refusal) = .next t) (hs : s.control = c) :
    t.control = c := by
  cases h
  exact hs

/-- RETD leaves the control bits in either order of its stores and pops (R131). -/
theorem execRetd_control {e : BitVec 8} (h : execRetd e s = .next t) : t.control = s.begun.control := by
  refine Gives.finish h ?_
  refine (Gives.retdPopThenStore rfl e).bind fun t' ht => (Gives.retdStoreThenPop rfl e).bind fun u hu => .pure ?_
  split
  · cases Config.retdStoresFirst s.draws
    · exact ht
    · exact hu
  · exact ht

/-- The instructions that write a control bit other than to clear PSETF and IDELAY. -/
inductive WritesControl : Instr → Prop
  | pset (p : BitVec 5) : WritesControl (.pset p)
  | setF (k : Nibble) : WritesControl (.setF k)
  | rstF (k : Nibble) : WritesControl (.rstF k)
  | ei : WritesControl .ei
  | di : WritesControl .di
  | sdf : WritesControl .sdf
  | rdf : WritesControl .rdf
  | popF : WritesControl .popF
  | halt : WritesControl .halt
  | slp : WritesControl .slp

/-- Every other instruction that completes leaves I, D and RUNSTATE, and both hidden bits cleared (R45). -/
theorem exec_control {i : Instr} (hi : ¬ WritesControl i) (h : exec i s = .next t) :
    t.control = s.begun.control := by
  cases i
  case pset p => exact absurd (.pset p) hi
  case setF k => exact absurd (.setF k) hi
  case rstF k => exact absurd (.rstF k) hi
  case ei => exact absurd .ei hi
  case di => exact absurd .di hi
  case sdf => exact absurd .sdf hi
  case rdf => exact absurd .rdf hi
  case popF => exact absurd .popF hi
  case halt => exact absurd .halt hi
  case slp => exact absurd .slp hi
  case jp | jpba => exact control_of_next h (s.jumpTo_control _)
  case jpC | jpNC | jpZ | jpNZ => exact control_of_next h (s.jumpIf_control _ _)
  case nop5 | nop7 | incX | incY | ldXE | ldYE | incSP | decSP | scf | szf | rcf | rzf | adcXHI | adcXLI | adcYHI
      | adcYLI | cpXHI | cpXLI | cpYHI | cpYLI => exact control_of_next h rfl
  case addRI | addRQ | adcRI | adcRQ | subRQ | sbcRI | sbcRQ => exact Gives.finish h (Gives.arith rfl _ _ _)
  case andRI | andRQ | orRI | orRQ | xorRI | xorRQ | notR => exact Gives.finish h (Gives.logic rfl _ _ _)
  case cpRI | cpRQ => exact Gives.finish h (Gives.compare rfl _ _)
  case fanRI | fanRQ => exact Gives.finish h (Gives.testBits rfl _ _)
  case incMn | decMn => exact Gives.finish h (Gives.stepDirect rfl _ _)
  case acpxMXR | acpyMYR | scpxMXR | scpyMYR =>
    exact Gives.finish h ((Gives.arithMem rfl _ _ _).bind fun _ hu => .pure hu)
  case rlcR =>
    exact Gives.finish h ((GivesWith.regRead rfl _).bind fun p hp =>
      (Gives.regWrite (s := p.2.latchA p.1) hp _ _).bind fun _ hu => .pure hu)
  case rrcR =>
    exact Gives.finish h ((GivesWith.regRead rfl _).bind fun _ hp =>
      (Gives.regWrite hp _ _).bind fun _ hu => .pure hu)
  case ldXPR | ldXHR | ldXLR | ldYPR | ldYHR | ldYLR => exact Gives.finish h (Gives.loadPart rfl _ fun _ _ => rfl)
  case ldRXP | ldRXH | ldRXL | ldRYP | ldRYH | ldRYL => exact Gives.finish h (Gives.storePart rfl _ _)
  case ldRI | ldRSPH | ldRSPL => exact Gives.finish h ((Gives.regWrite rfl _ _).bind fun _ hu => .pure hu)
  case ldRQ | ldpxRQ | ldpyRQ => exact Gives.finish h ((Gives.move rfl _ _).bind fun _ hu => .pure hu)
  case ldSPHR | ldSPLR => exact Gives.finish h ((GivesWith.regRead rfl _).bind fun _ hp => .pure hp)
  case ldAMn | ldBMn => exact Gives.finish h ((GivesWith.memRead rfl _).bind fun _ hp => .pure hp)
  case ldMnA | ldMnB | ldpxMXI | ldpyMYI => exact Gives.finish h ((Gives.memWrite rfl _ _).bind fun _ hu => .pure hu)
  case lbpxMXE => exact Gives.finish h ((Gives.storePair rfl _).bind fun _ hu => .pure hu)
  case pushR => exact Gives.finish h ((GivesWith.regRead rfl _).bind fun _ hp => .pushValue hp _)
  case pushXP | pushXH | pushXL | pushYP | pushYH | pushYL | pushF => exact Gives.finish h (Gives.pushValue rfl _)
  case popR =>
    exact Gives.finish h ((GivesWith.pop1 rfl).bind fun _ hp =>
      (Gives.regWrite hp _ _).bind fun _ hu => .pure hu)
  case popXP | popXH | popXL | popYP | popYH | popYL => exact Gives.finish h (Gives.popInto rfl fun _ _ => rfl)
  case call =>
    exact Gives.finish h ((Gives.pushRet rfl _).bind fun u hu => .pure ((u.callPage_control _).trans hu))
  case calz => exact Gives.finish h ((Gives.pushRet rfl _).bind fun _ hu => .pure hu)
  case ret => exact Gives.finish h (Gives.returnFromStack rfl)
  case rets => exact Gives.finish h ((Gives.returnFromStack rfl).bind fun _ hu => .pure hu)
  case retd => exact execRetd_control h

/-! ### Instructions that write a control bit -/

/-- PSET sets PSETF (R120). -/
theorem execPset_control {p : BitVec 5} (h : execPset p s = .next t) :
    t.control = { s.begun.control with psetf := true } := control_of_next h rfl

/-- RST F writes I and D (R201). -/
theorem execRstF_control {k : Nibble} (h : execRstF k s = .next t) :
    t.control = { s.begun.control with fi := s.fi && k.getLsbD 3, fd := s.fd && k.getLsbD 2 } :=
  control_of_next h rfl

/-- DI clears I (R209). -/
theorem execDi_control (h : execDi s = .next t) : t.control = { s.begun.control with fi := false } :=
  control_of_next h rfl

/-- SDF sets D (R206). -/
theorem execSdf_control (h : execSdf s = .next t) : t.control = { s.begun.control with fd := true } :=
  control_of_next h rfl

/-- RDF clears D (R207). -/
theorem execRdf_control (h : execRdf s = .next t) : t.control = { s.begun.control with fd := false } :=
  control_of_next h rfl

/-- HALT changes RUNSTATE (R142). -/
theorem execHalt_control (h : execHalt s = .next t) : t.control = { s.begun.control with runState := .halt } :=
  control_of_next h rfl

/-- SLP changes RUNSTATE (R143). -/
theorem execSlp_control (h : execSlp s = .next t) : t.control = { s.begun.control with runState := .sleep } :=
  control_of_next h rfl

/-- Setting I writes I and IDELAY (R42). -/
theorem State.setInterruptFlag_control (s : State) :
    s.setInterruptFlag.control = { s.control with fi := true, idelay := s.setInterruptFlag.idelay } := by
  simp [State.control]

/-- EI sets I, and may set IDELAY (R208). -/
theorem execEi_control (h : execEi s = .next t) :
    t.control = { s.begun.control with fi := true, idelay := s.begun.setInterruptFlag.idelay } :=
  control_of_next h s.begun.setInterruptFlag_control

/-- SET F writes I and D; where its bit 3 is 0 it leaves I and sets no IDELAY (R200). -/
theorem execSetF_control {k : Nibble} (h : execSetF k s = .next t) :
    ∃ b, t.control =
      { s.begun.control with
        fi := s.fi || k.getLsbD 3, fd := s.fd || k.getLsbD 2, idelay := k.getLsbD 3 && b } := by
  cases h
  cases hk : k.getLsbD 3 with
  | false => exact ⟨false, by simp [State.control_eq_iff]⟩
  | true =>
    exact ⟨if s.fi = true then Config.idelayOther s.draws else true,
      by simp [State.control_eq_iff, State.setInterruptFlag_idelay]⟩

/-- The popped word gives I and D; where its I is 0, IDELAY stays 0 (R42). -/
theorem State.popFlags_control (hs : s.control = c) (hc : c.idelay = false) (v : Nibble) :
    ∃ b, (s.popFlags v).control =
      { c with fi := v.getLsbD 3, fd := v.getLsbD 2, idelay := v.getLsbD 3 && b } := by
  subst hs
  rw [State.control_idelay] at hc
  have hd := State.popFlags_idelay s v
  by_cases hon : s.fi = false ∧ v.getLsbD 3 = true
  · rw [if_pos hon] at hd
    exact ⟨Config.idelayOther s.draws, by simp [State.control_eq_iff, hd, hon]⟩
  · rw [if_neg hon] at hd
    exact ⟨false, by simp [State.control_eq_iff, hd, hc]⟩

/-- POP F writes I and D from the popped word, and sets IDELAY only where that word has I = 1 (R232). -/
theorem execPopF_control (h : execPopF s = .next t) :
    ∃ v : Nibble, ∃ b, t.control =
      { s.begun.control with fi := v.getLsbD 3, fd := v.getLsbD 2, idelay := v.getLsbD 3 && b } := by
  obtain ⟨-, rfl⟩ := (State.popInto_ok _ _ _).1 ((finish_next _ _).1 h)
  have hu : ((s.begun.afterRead (stackAddr s.begun.sp)).setSP (s.begun.sp + 1)).control = s.begun.control :=
    s.begun.afterRead_control _
  exact ⟨_, State.popFlags_control hu rfl _⟩

end

/-! ### Who writes the control bits -/

/-- Settles O59: PSETF is 1 after PSET, and every other instruction leaves it as it clears it at its start. -/
theorem psetfIsSetByPsetAlone : Obligations.PsetfIsSetByPsetAlone := by
  intro i s t h
  by_cases hi : WritesControl i
  · cases hi with
    | pset p => simp [(State.control_eq_iff _ _).1 (execPset_control h)]
    | setF k =>
      obtain ⟨b, hb⟩ := execSetF_control h
      simp [(State.control_eq_iff _ _).1 hb]
    | rstF k => simp [(State.control_eq_iff _ _).1 (execRstF_control h)]
    | ei => simp [(State.control_eq_iff _ _).1 (execEi_control h)]
    | di => simp [(State.control_eq_iff _ _).1 (execDi_control h)]
    | sdf => simp [(State.control_eq_iff _ _).1 (execSdf_control h)]
    | rdf => simp [(State.control_eq_iff _ _).1 (execRdf_control h)]
    | popF =>
      obtain ⟨v, b, hb⟩ := execPopF_control h
      simp [(State.control_eq_iff _ _).1 hb]
    | halt => simp [(State.control_eq_iff _ _).1 (execHalt_control h)]
    | slp => simp [(State.control_eq_iff _ _).1 (execSlp_control h)]
  · have hp : t.psetf = false := congrArg Control.psetf (exec_control hi h)
    have hn : ¬ ∃ p, i = .pset p := fun ⟨p, hpset⟩ => hi (hpset ▸ .pset p)
    simp [hp, hn]

/-- Settles O60: only the instructions of `WritesControl` write these bits, and of each it is known which it writes. -/
theorem whoWritesInterruptAndDecimalFlags : Obligations.WhoWritesInterruptAndDecimalFlags := by
  intro i s t h
  by_cases hi : WritesControl i
  · cases hi with
    | pset p => simp [(State.control_eq_iff _ _).1 (execPset_control h)]
    | setF k =>
      obtain ⟨b, hb⟩ := execSetF_control h
      simp +contextual [(State.control_eq_iff _ _).1 hb]
    | rstF k => simp [(State.control_eq_iff _ _).1 (execRstF_control h)]
    | ei => simp [(State.control_eq_iff _ _).1 (execEi_control h)]
    | di => simp [(State.control_eq_iff _ _).1 (execDi_control h)]
    | sdf => simp [(State.control_eq_iff _ _).1 (execSdf_control h)]
    | rdf => simp [(State.control_eq_iff _ _).1 (execRdf_control h)]
    | popF =>
      obtain ⟨v, b, hb⟩ := execPopF_control h
      simp +contextual [(State.control_eq_iff _ _).1 hb]
    | halt => simp [(State.control_eq_iff _ _).1 (execHalt_control h)]
    | slp => simp [(State.control_eq_iff _ _).1 (execSlp_control h)]
  · simp [(State.control_eq_iff _ _).1 (exec_control hi h)]

/-! ### The instruction a step runs -/

/-- Everything the fetch can answer: the decoded word at PCB : PCP : PCS, where the device has it (R61, R106). -/
theorem State.fetch_ok (s : State) (i : Instr) :
    s.fetch = .ok i ↔
      ∃ w, s.rom.lookup s.pc.toNat = some w ∧ decode w = .ok i ∧ i.row ∉ s.device.lacking := by
  unfold State.fetch
  cases hw : s.rom.lookup s.pc.toNat with
  | none => simp
  | some w =>
    cases hd : decode w with
    | error e => cases e <;> simp [hd]
    | ok j =>
      by_cases hj : j.row ∈ s.device.lacking
      · simpa [hd, hj] using fun e => e ▸ hj
      · simpa [hd, hj] using fun e => e ▸ hj

/-- Settles O46: a quiet boundary goes to `proceed`, which runs what is fetched; the inputs used up at the boundary are
no part of what the fetch looks at. -/
theorem stepRunsTheDecodedInstruction : Obligations.StepRunsTheDecodedInstruction := by
  intro s w i hreset hirq hrun hw hd hdev
  have hfetch : s.atBoundary.fetch = .ok i := (State.fetch_ok _ _).2 ⟨w, hw, hd, hdev⟩
  calc step s = s.atBoundary.proceed := step_quiet hreset hirq
    _ = exec i s.atBoundary := State.proceed_run hrun hfetch

/-! ### The state right after reset -/

/-- Settles O48: each value is the one `State.reset` gives. -/
theorem resetStateIsTheTable : Obligations.ResetStateIsTheTable :=
  ⟨rfl, rfl, rfl, rfl, rfl, fun _ => rfl, rfl, rfl, rfl, rfl⟩

/-- Settles O55: the memories are empty, the closed device is RAM throughout, and the hidden bits are 0. -/
theorem resetStateIsInTheInvariant : Obligations.ResetStateIsInTheInvariant where
  ramForm := reset_memories_wf.1
  romForm := reset_memories_wf.2
  ramIsRam addr _ := kindAt_closed _ rfl addr
  delayNeedsI h := nomatch h
  oneShadow h := nomatch h.1
  stoppedClean _ := ⟨rfl, rfl⟩

end Sys2Proof.Machine

/-!
The statements of spec/20_memory.md: every step keeps the form of the memories, the device and the invariant (R61, R64,
R82), what one data access does at each kind of address (R64, R80), and where a fetch stops (R61, R104 to R106). The
first rests on the relation `Keeps`, which every shared operation meets, and on one case split over the instructions,
`exec_keeps`.
-/

namespace Sys2Proof.Machine

/-! ### What no instruction writes, and the form of the RAM -/

/-- From `s` to `t` the program memory, the device and the coming inputs are kept, and so is the form of the RAM. -/
def Keeps (s t : State) : Prop :=
  t.rom = s.rom ∧ t.device = s.device ∧ t.inputs = s.inputs ∧ (RamForm s.device s.ram → RamForm t.device t.ram)

/-- Every answer of the computation has the property. -/
def Ensures {α : Type} (P : α → Prop) (x : Res α) : Prop := ∀ p, x = .ok p → P p

theorem Ensures.pure {α : Type} {P : α → Prop} {p : α} (h : P p) : Ensures P (pure p) :=
  fun _ k => (Res.pure_ok _ _).1 k ▸ h

/-- A sequence ensures what its second part ensures after every answer of the first. -/
theorem Ensures.bind {α β : Type} {P : α → Prop} {Q : β → Prop} {x : Res α} {f : α → Res β} (hx : Ensures P x)
    (hf : ∀ p, P p → Ensures Q (f p)) : Ensures Q (x >>= f) := fun q h =>
  have ⟨p, hp, hq⟩ := (Res.bind_ok x f q).1 h
  hf p (hx p hp) q hq

section

variable {s u t : State}

theorem Keeps.refl (s : State) : Keeps s s := ⟨rfl, rfl, rfl, id⟩

/-- A read changes none of these. -/
theorem Keeps.afterRead (h : Keeps s u) (addr : DataAddr) : Keeps s (u.afterRead addr) := by
  simpa [Keeps] using h

/-- A write changes the RAM alone, and keeps its form. -/
theorem Keeps.afterWrite (h : Keeps s u) (addr : DataAddr) (v : Nibble) : Keeps s (u.afterWrite addr v) := by
  obtain ⟨hrom, hdev, hin, hram⟩ := h
  exact ⟨by simpa using hrom, by simpa using hdev, by simpa using hin, fun k => .afterWrite addr v (hram k)⟩

/-! One data access, and the operations made of data accesses: each keeps these, whatever was done before it. -/

theorem Keeps.memRead (h : Keeps s u) (addr : DataAddr) : Ensures (fun p => Keeps s p.2) (u.memRead addr) :=
  fun p hp => by
    obtain ⟨-, rfl⟩ := (State.memRead_ok _ _ _).1 hp
    exact h.afterRead addr

theorem Keeps.memWrite (h : Keeps s u) (addr : DataAddr) (v : Nibble) : Ensures (Keeps s) (u.memWrite addr v) :=
  fun t ht => by
    obtain ⟨-, rfl⟩ := (State.memWrite_ok _ _ _ _).1 ht
    exact h.afterWrite addr v

theorem Keeps.regRead (h : Keeps s u) (r : Reg) : Ensures (fun p => Keeps s p.2) (u.regRead r) := by
  cases r with
  | a | b => exact .pure h
  | mx | my => exact h.memRead _

theorem Keeps.regWrite (h : Keeps s u) (r : Reg) (v : Nibble) : Ensures (Keeps s) (u.regWrite r v) := by
  cases r with
  | a | b => exact .pure h
  | mx | my => exact h.memWrite _ v

theorem Keeps.srcRead (h : Keeps s u) (q : Src) : Ensures (fun p => Keeps s p.2) (u.srcRead q) := by
  cases q with
  | imm i => exact .pure h
  | reg q => exact h.regRead q

theorem Keeps.arith (h : Keeps s u) (f : Nibble → Nibble → AluOut) (r : Reg) (q : Src) :
    Ensures (Keeps s) (u.arith f r q) :=
  (h.regRead r).bind fun x hx => (Keeps.srcRead hx q).bind fun y hy =>
    (Keeps.regWrite (u := y.2.latch x.1 y.1) hy r _).bind fun _ hw => .pure hw

theorem Keeps.logic (h : Keeps s u) (f : Nibble → Nibble → Nibble) (r : Reg) (q : Src) :
    Ensures (Keeps s) (u.logic f r q) :=
  (h.regRead r).bind fun x hx => (Keeps.srcRead hx q).bind fun y hy =>
    (Keeps.regWrite (u := y.2.latch x.1 y.1) hy r _).bind fun _ hw => .pure hw

theorem Keeps.compare (h : Keeps s u) (r : Reg) (q : Src) : Ensures (Keeps s) (u.compare r q) :=
  (h.regRead r).bind fun _ hx => (Keeps.srcRead hx q).bind fun _ hy => .pure hy

theorem Keeps.testBits (h : Keeps s u) (r : Reg) (q : Src) : Ensures (Keeps s) (u.testBits r q) :=
  (h.regRead r).bind fun _ hx => (Keeps.srcRead hx q).bind fun _ hy => .pure hy

theorem Keeps.arithMem (h : Keeps s u) (f : Nibble → Nibble → AluOut) (addr : DataAddr) (r : Reg) :
    Ensures (Keeps s) (u.arithMem f addr r) :=
  (h.memRead addr).bind fun x hx => (Keeps.regRead hx r).bind fun y hy =>
    (Keeps.memWrite (u := y.2.latch x.1 y.1) hy addr _).bind fun _ hw => .pure hw

theorem Keeps.stepDirect (h : Keeps s u) (f : Nibble → Nibble → AluOut) (n : Nibble) :
    Ensures (Keeps s) (u.stepDirect f n) :=
  (Keeps.memRead (u := u.loadRP n) h _).bind fun x hx =>
    (Keeps.memWrite (u := x.2.latch x.1 1) hx _ _).bind fun _ hw => .pure hw

theorem Keeps.move (h : Keeps s u) (r q : Reg) : Ensures (Keeps s) (u.move r q) :=
  (h.regRead q).bind fun _ hx => Keeps.regWrite hx r _

theorem Keeps.storePair (h : Keeps s u) (e : BitVec 8) : Ensures (Keeps s) (u.storePair e) :=
  (h.memWrite _ _).bind fun _ hw => Keeps.memWrite hw _ _

theorem Keeps.loadPart (h : Keeps s u) {put : State → Nibble → State} (r : Reg)
    (hput : ∀ w v, Keeps s w → Keeps s (put w v)) : Ensures (Keeps s) (u.loadPart put r) :=
  (h.regRead r).bind fun x hx => .pure (hput x.2 x.1 hx)

theorem Keeps.storePart (h : Keeps s u) (v : Nibble) (r : Reg) : Ensures (Keeps s) (u.storePart v r) :=
  (h.regWrite r v).bind fun _ hw => .pure hw

theorem Keeps.pushValue (h : Keeps s u) (v : Nibble) : Ensures (Keeps s) (u.pushValue v) :=
  (Keeps.memWrite (u := u.setSP (u.sp - 1)) h (stackAddr (u.sp - 1)) v).bind fun _ hw => .pure hw

theorem Keeps.pop1 (h : Keeps s u) : Ensures (fun p => Keeps s p.2) u.pop1 :=
  (h.memRead _).bind fun _ hx => .pure hx

theorem Keeps.popInto (h : Keeps s u) {put : State → Nibble → State}
    (hput : ∀ w v, Keeps s w → Keeps s (put w v)) : Ensures (Keeps s) (u.popInto put) :=
  h.pop1.bind fun x hx => .pure (hput x.2 x.1 hx)

theorem Keeps.pushRet (h : Keeps s u) (ret : BitVec 12) : Ensures (Keeps s) (u.pushRet ret) :=
  (h.memWrite _ _).bind fun _ hpage => (Keeps.memWrite hpage _ _).bind fun _ hhigh =>
    (Keeps.memWrite hhigh _ _).bind fun _ hlow => .pure hlow

theorem Keeps.popRet (h : Keeps s u) : Ensures (fun p => Keeps s p.2) u.popRet :=
  (h.memRead _).bind fun _ hlow => (Keeps.memRead hlow _).bind fun _ hhigh =>
    (Keeps.memRead hhigh _).bind fun _ hpage => .pure hpage

theorem Keeps.returnFromStack (h : Keeps s u) : Ensures (Keeps s) u.returnFromStack :=
  h.popRet.bind fun _ hx => .pure hx

theorem Keeps.retdPopThenStore (h : Keeps s u) (e : BitVec 8) : Ensures (Keeps s) (u.retdPopThenStore e) :=
  h.popRet.bind fun _ hx => (Keeps.storePair hx e).bind fun _ hw => .pure hw

theorem Keeps.retdStoreThenPop (h : Keeps s u) (e : BitVec 8) : Ensures (Keeps s) (u.retdStoreThenPop e) :=
  (h.storePair e).bind fun _ hw => (Keeps.popRet hw).bind fun _ hx => .pure hx

theorem Keeps.interruptEntry (h : Keeps s u) (v : Fin 15) : Ensures (Keeps s) (u.interruptEntry v) :=
  (h.pushRet _).bind fun _ hw => .pure hw

/-! Updates that depend on a bit of the state. -/

theorem Keeps.jumpTo (h : Keeps s u) (step : BitVec 8) : Keeps s (u.jumpTo step) := by
  simpa [Keeps, State.jumpTo] using h

theorem Keeps.jumpIf (h : Keeps s u) (cond : Bool) (step : BitVec 8) : Keeps s (u.jumpIf cond step) := by
  unfold State.jumpIf
  split
  · exact h.jumpTo step
  · exact h

theorem Keeps.callPage (h : Keeps s u) (p : Bool) : Keeps s (u.callPage p) := by simpa [Keeps] using h

theorem Keeps.setInterruptFlag (h : Keeps s u) : Keeps s u.setInterruptFlag := by simpa [Keeps] using h

theorem Keeps.popFlags (h : Keeps s u) (v : Nibble) : Keeps s (u.popFlags v) := by simpa [Keeps] using h

/-! ### Instructions and steps -/

/-- An instruction keeps what its meaning keeps. -/
theorem Keeps.of_finish {x : Res State} (h : finish x = .next t) (hx : Ensures (Keeps s) x) : Keeps s t :=
  hx t ((finish_next x t).1 h)

/-- An instruction that cannot stop keeps what its one answer keeps. -/
theorem Keeps.of_next (h : (.next u : Host.Outcome State Fault Refusal) = .next t) (hu : Keeps s u) : Keeps s t := by
  cases h
  exact hu

/-- RETD, in either order of its stores and pops (R131). -/
theorem execRetd_keeps {e : BitVec 8} (h : execRetd e s = .next t) : Keeps s t := by
  have hs : Keeps s s.begun := Keeps.refl s
  refine Keeps.of_finish h ((hs.retdPopThenStore e).bind fun p hp => (hs.retdStoreThenPop e).bind fun w hw => .pure ?_)
  split
  · cases Config.retdStoresFirst s.draws
    · exact hp
    · exact hw
  · exact hp

/-- SET F, whether or not it sets I (R200). -/
theorem execSetF_keeps {k : Nibble} (h : execSetF k s = .next t) : Keeps s t := by
  refine Keeps.of_next h ?_
  split
  · exact Keeps.setInterruptFlag (Keeps.refl s)
  · exact Keeps.refl s

/-- Every instruction that completes leaves the program memory, the device and the coming inputs, and keeps the form of
the RAM. -/
theorem exec_keeps {i : Instr} (h : exec i s = .next t) : Keeps s t := by
  have hs : Keeps s s.begun := Keeps.refl s
  cases i
  case jp | jpba => exact .of_next h ((Keeps.refl s).jumpTo _)
  case jpC | jpNC | jpZ | jpNZ => exact .of_next h ((Keeps.refl s).jumpIf _ _)
  case ei => exact .of_next h hs.setInterruptFlag
  case setF => exact execSetF_keeps h
  case pset | rstF | di | sdf | rdf | halt | slp | nop5 | nop7 | incX | incY | ldXE | ldYE | incSP | decSP | scf | szf
      | rcf | rzf | adcXHI | adcXLI | adcYHI | adcYLI | cpXHI | cpXLI | cpYHI | cpYLI => exact .of_next h hs
  case addRI | addRQ | adcRI | adcRQ | subRQ | sbcRI | sbcRQ => exact .of_finish h (hs.arith _ _ _)
  case andRI | andRQ | orRI | orRQ | xorRI | xorRQ | notR => exact .of_finish h (hs.logic _ _ _)
  case cpRI | cpRQ => exact .of_finish h (hs.compare _ _)
  case fanRI | fanRQ => exact .of_finish h (hs.testBits _ _)
  case incMn | decMn => exact .of_finish h (hs.stepDirect _ _)
  case acpxMXR | acpyMYR | scpxMXR | scpyMYR => exact .of_finish h ((hs.arithMem _ _ _).bind fun _ hw => .pure hw)
  case rlcR =>
    exact .of_finish h ((hs.regRead _).bind fun x hx =>
      (Keeps.regWrite (u := x.2.latchA x.1) hx _ _).bind fun _ hw => .pure hw)
  case rrcR =>
    exact .of_finish h ((hs.regRead _).bind fun _ hx => (Keeps.regWrite hx _ _).bind fun _ hw => .pure hw)
  case ldXPR | ldXHR | ldXLR | ldYPR | ldYHR | ldYLR => exact .of_finish h (hs.loadPart _ fun _ _ hw => hw)
  case ldRXP | ldRXH | ldRXL | ldRYP | ldRYH | ldRYL => exact .of_finish h (hs.storePart _ _)
  case ldRI | ldRSPH | ldRSPL => exact .of_finish h ((hs.regWrite _ _).bind fun _ hw => .pure hw)
  case ldRQ | ldpxRQ | ldpyRQ => exact .of_finish h ((hs.move _ _).bind fun _ hw => .pure hw)
  case ldSPHR | ldSPLR => exact .of_finish h ((hs.regRead _).bind fun _ hx => .pure hx)
  case ldAMn n | ldBMn n =>
    exact .of_finish h ((Keeps.memRead (u := s.begun.loadRP n) hs _).bind fun _ hx => .pure hx)
  case ldMnA n | ldMnB n =>
    exact .of_finish h ((Keeps.memWrite (u := s.begun.loadRP n) hs _ _).bind fun _ hw => .pure hw)
  case ldpxMXI | ldpyMYI => exact .of_finish h ((hs.memWrite _ _).bind fun _ hw => .pure hw)
  case lbpxMXE => exact .of_finish h ((hs.storePair _).bind fun _ hw => .pure hw)
  case pushR => exact .of_finish h ((hs.regRead _).bind fun _ hx => Keeps.pushValue hx _)
  case pushXP | pushXH | pushXL | pushYP | pushYH | pushYL | pushF => exact .of_finish h (hs.pushValue _)
  case popR => exact .of_finish h (hs.pop1.bind fun _ hx => (Keeps.regWrite hx _ _).bind fun _ hw => .pure hw)
  case popXP | popXH | popXL | popYP | popYH | popYL => exact .of_finish h (hs.popInto fun _ _ hw => hw)
  case popF => exact .of_finish h (hs.popInto fun _ v hw => hw.popFlags v)
  case call => exact .of_finish h ((hs.pushRet _).bind fun _ hw => .pure (Keeps.callPage hw _))
  case calz => exact .of_finish h ((hs.pushRet _).bind fun _ hw => .pure hw)
  case ret => exact .of_finish h hs.returnFromStack
  case rets => exact .of_finish h (hs.returnFromStack.bind fun _ hw => .pure hw)
  case retd => exact execRetd_keeps h

/-- Every step keeps the same, once the input of its boundary is used up. -/
theorem step_keeps (h : step s = .next t) : Keeps s.atBoundary t := by
  obtain ⟨-, rfl⟩ | ⟨-, ⟨v, -, -, hv⟩ | ⟨-, ⟨-, rfl⟩ | ⟨-, i, -, hi⟩⟩⟩ := step_cases h
  · exact ⟨rfl, rfl, rfl, fun _ => RamForm.doReset _⟩
  · exact (Keeps.refl _).interruptEntry v t hv
  · exact Keeps.refl _
  · exact exec_keeps hi

/-! ### The hidden bits in a run -/

/-- How I, the hidden bits and RUNSTATE go together in a run (R41 to R43): the parts `delayNeedsI`, `oneShadow` and
`stoppedClean` of the invariant. -/
def ShadowForm (s : State) : Prop :=
  (s.idelay = true → s.fi = true) ∧ ¬ (s.psetf = true ∧ s.idelay = true) ∧
  (s.runState ≠ .run → s.psetf = false ∧ s.idelay = false)

/-- With both hidden bits 0 nothing is asked. -/
theorem ShadowForm.of_clear (hp : s.psetf = false) (hd : s.idelay = false) : ShadowForm s := by
  simp [ShadowForm, hp, hd]

/-- The invariant is the form of each memory and of the hidden bits. -/
theorem State.inv_iff (s : State) : s.Inv ↔ RamForm s.device s.ram ∧ s.rom.wf 8192 = true ∧ ShadowForm s :=
  ⟨fun h => ⟨⟨h.ramForm, h.ramIsRam⟩, h.romForm, h.delayNeedsI, h.oneShadow, h.stoppedClean⟩,
    fun ⟨⟨hram, hisRam⟩, hrom, hdelay, hone, hclean⟩ => ⟨hram, hrom, hisRam, hdelay, hone, hclean⟩⟩

/-- An instruction run gives the hidden bits their form whatever they were: PSETF is set by PSET alone, IDELAY by SET F,
EI and POP F alone, and HALT and SLP, which alone stop the core, set neither. -/
theorem exec_shadowForm {i : Instr} (hrun : s.runState = .run) (h : exec i s = .next t) : ShadowForm t := by
  have hpset := psetfIsSetByPsetAlone i s t h
  obtain ⟨-, -, hdelay, hstop⟩ := whoWritesInterruptAndDecimalFlags i s t h
  refine ⟨fun hd => (hdelay hd).1, ?_, fun hr => ?_⟩
  · rintro ⟨hp, hd⟩
    obtain ⟨p, rfl⟩ := hpset.1 hp
    simpa using (hdelay hd).2
  · obtain rfl | rfl := hstop (hrun ▸ hr)
    · exact ⟨by simpa using hpset, by simpa using hdelay⟩
    · exact ⟨by simpa using hpset, by simpa using hdelay⟩

/-- Every step keeps the form of the hidden bits: reset and interrupt entry clear them, a stopped core leaves them. -/
theorem step_shadowForm (h : step s = .next t) (hs : ShadowForm s) : ShadowForm t := by
  obtain ⟨-, rfl⟩ | ⟨-, ⟨v, -, -, hv⟩ | ⟨-, ⟨-, rfl⟩ | ⟨hrun, i, -, hi⟩⟩⟩ := step_cases h
  · exact .of_clear rfl rfl
  · obtain ⟨-, u, -, rfl⟩ := (State.interruptEntry_ok _ _ _).1 hv
    exact .of_clear rfl rfl
  · exact hs
  · exact exec_shadowForm (s := s.atBoundary) hrun hi

end

/-- Settles O56: each of the three parts of the invariant is kept by itself. -/
theorem everyStepKeepsTheInvariant : Obligations.EveryStepKeepsTheInvariant := by
  intro s t hs h
  obtain ⟨hram, hrom, hshadow⟩ := s.inv_iff.1 hs
  obtain ⟨hromSame, -, -, hramKept⟩ := step_keeps h
  exact t.inv_iff.2 ⟨hramKept hram, hromSame ▸ hrom, step_shadowForm h hshadow⟩

/-- Settles O57: every step keeps all three of the state it finds once the input of its boundary is used up. -/
theorem programAndDeviceNeverChange : Obligations.ProgramAndDeviceNeverChange := by
  intro s t h
  obtain ⟨hrom, hdev, hinputs, -⟩ := step_keeps h
  exact ⟨hrom, hdev, hinputs⟩

/-! ### One data access, by the kind of its address (R64, R80) -/

@[simp] theorem State.afterRead_pc (s : State) (addr : DataAddr) : (s.afterRead addr).pc = s.pc := by
  simp [State.pc]

@[simp] theorem State.afterWrite_pc (s : State) (addr : DataAddr) (v : Nibble) : (s.afterWrite addr v).pc = s.pc := by
  simp [State.pc]

/-- A read answers what its stop says. -/
theorem State.memRead_error {s : State} {addr : DataAddr} {e : Stop} (h : s.readStop addr = some e) :
    s.memRead addr = .error e := by
  simp [State.memRead, h]

/-- A write answers what its stop says. -/
theorem State.memWrite_error {s : State} {addr : DataAddr} {e : Stop} (h : s.writeStop addr = some e) (v : Nibble) :
    s.memWrite addr v = .error e := by
  simp [State.memWrite, h]

section

variable {s : State} {addr : DataAddr}

theorem State.readStop_unmapped (h : kindAt s.device addr = .unmapped) :
    s.readStop addr = some (.fault (.dmemUnmapped addr)) := by simp [State.readStop, h]

theorem State.writeStop_unmapped (h : kindAt s.device addr = .unmapped) :
    s.writeStop addr = some (.fault (.dmemUnmapped addr)) := by simp [State.writeStop, h]

theorem State.canRead_ram (h : kindAt s.device addr = .ram) : s.CanRead addr := by
  simp [State.CanRead, State.readStop, h]

theorem State.canWrite_ram (h : kindAt s.device addr = .ram) : s.CanWrite addr := by
  simp [State.CanWrite, State.writeStop, h]

theorem State.canRead_peripheral (h : kindAt s.device addr = .peripheral) : s.CanRead addr := by
  simp [State.CanRead, State.readStop, h]

theorem State.canWrite_peripheral (h : kindAt s.device addr = .peripheral) : s.CanWrite addr := by
  simp [State.CanWrite, State.writeStop, h]

/-- A read of RAM gives the RAM word and has no side effect. -/
theorem State.memRead_ram (h : kindAt s.device addr = .ram) : s.memRead addr = .ok (s.ramWord addr, s) := by
  rw [State.memRead_ok]
  exact ⟨State.canRead_ram h, by simp [State.readValue, State.afterRead, h]⟩

/-- A read changes no register and no RAM word; a peripheral sees it. -/
theorem Frame.afterRead (s : State) (addr : DataAddr) :
    Frame [] [] [.read addr (s.readValue addr)] s (s.afterRead addr) :=
  .of_reads (fun p _ => by cases p <;> simp [Piece.Same]) (by simp) (by simp) (s.afterRead_bus addr)

/-- A write changes no register, and no RAM word but that at its address; a peripheral sees it. -/
theorem Frame.afterWrite (s : State) (addr : DataAddr) (v : Nibble) :
    Frame [] [addr] [.write addr v] s (s.afterWrite addr v) :=
  .of_write (u := s) (accesses := []) (fun p _ => by cases p <;> rfl) rfl rfl rfl rfl
    (fun p _ => by cases p <;> rfl) rfl (by simp) rfl

/-- No peripheral sees a write of RAM. -/
theorem Frame.afterWrite_ram (h : kindAt s.device addr = .ram) (v : Nibble) :
    Frame [] [addr] [] s (s.afterWrite addr v) := by
  obtain ⟨hpieces, hwords, -⟩ := Frame.afterWrite s addr v
  exact ⟨hpieces, hwords, s.afterWrite_bus_ram addr v h⟩

/-- A write elsewhere changes no RAM word. -/
theorem Frame.afterWrite_outside (h : kindAt s.device addr ≠ .ram) (v : Nibble) :
    Frame [] [] [.write addr v] s (s.afterWrite addr v) := by
  obtain ⟨hpieces, -, hbus⟩ := Frame.afterWrite s addr v
  exact ⟨hpieces, fun b _ => by simp [State.afterWrite_ramWord, h], hbus⟩

/-- What a read that completes does, beside the value it gives. -/
theorem State.memRead_completes (h : s.CanRead addr) :
    ∃ x t, s.memRead addr = .ok (x, t) ∧ Frame [] [] [.read addr x] s t ∧
      t.pc = s.pc ∧ t.psetf = s.psetf ∧ t.idelay = s.idelay :=
  ⟨_, _, (State.memRead_ok _ _ _).2 ⟨h, rfl⟩, .afterRead s addr, by simp, by simp, by simp⟩

/-- What a write that completes does at an address that is not RAM. -/
theorem State.memWrite_completes_outside (h : s.CanWrite addr) (hk : kindAt s.device addr ≠ .ram) (v : Nibble) :
    ∃ t, s.memWrite addr v = .ok t ∧ Frame [] [] [.write addr v] s t ∧
      t.pc = s.pc ∧ t.psetf = s.psetf ∧ t.idelay = s.idelay :=
  ⟨_, (State.memWrite_ok _ _ _ _).2 ⟨h, rfl⟩, .afterWrite_outside hk v, by simp, by simp, by simp⟩

/-- What a write of RAM does: it completes, and the word is then read back. -/
theorem State.memWrite_ram (h : kindAt s.device addr = .ram) (v : Nibble) :
    ∃ t, s.memWrite addr v = .ok t ∧ t.memRead addr = .ok (v, t) ∧ Frame [] [addr] [] s t ∧
      t.pc = s.pc ∧ t.psetf = s.psetf ∧ t.idelay = s.idelay := by
  have hread : (s.afterWrite addr v).memRead addr = .ok (v, s.afterWrite addr v) := by
    rw [State.memRead_ram (by simpa using h), State.afterWrite_ramWord, if_pos ⟨rfl, h⟩]
  exact ⟨_, (State.memWrite_ok _ _ _ _).2 ⟨State.canWrite_ram h, rfl⟩, hread, .afterWrite_ram h v, by simp, by simp,
    by simp⟩

end

/-- Settles O52, kind by kind. -/
theorem dataMemoryReadsAndWrites : Obligations.DataMemoryReadsAndWrites := by
  intro s addr v
  refine ⟨fun hk => ?unmapped, fun hk => ?ram, fun hk => ?peripheral⟩
  case unmapped =>
    exact ⟨State.memRead_error (State.readStop_unmapped hk), State.memWrite_error (State.writeStop_unmapped hk) v⟩
  case ram => exact ⟨State.memRead_ram hk, State.memWrite_ram hk v⟩
  case peripheral =>
    exact ⟨State.memRead_completes (State.canRead_peripheral hk),
      State.memWrite_completes_outside (State.canWrite_peripheral hk) (by simp [hk]) v⟩

/-! ### Where a fetch stops (R61, R104 to R106) -/

section

variable {s : State} {w : InstrWord}

theorem State.fetch_romUnmapped (hw : s.rom.lookup s.pc.toNat = none) : s.fetch = .error (.romUnmapped s.pc) := by
  simp [State.fetch, hw]

theorem State.fetch_undefinedWord (hw : s.rom.lookup s.pc.toNat = some w) (hd : decode w = .error .undefinedWord) :
    s.fetch = .error (.undefinedOpcode w) := by
  simp [State.fetch, hw, hd]

theorem State.fetch_rlcFields (hw : s.rom.lookup s.pc.toNat = some w) (hd : decode w = .error .rlcFields) :
    s.fetch = .error (.rlcFields w) := by
  simp [State.fetch, hw, hd]

theorem State.fetch_lacking {i : Instr} (hw : s.rom.lookup s.pc.toNat = some w) (hd : decode w = .ok i)
    (hi : i.row ∈ s.device.lacking) : s.fetch = .error (.undefinedOpcode w) := by
  simp [State.fetch, hw, hd, hi]

/-- What is fetched does not depend on the inputs. -/
@[simp] theorem State.atBoundary_fetch (s : State) : s.atBoundary.fetch = s.fetch := rfl

end

/-- Settles O47: at a quiet boundary a running core stops where its fetch does. -/
theorem fetchStopsByName : Obligations.FetchStopsByName := by
  intro s hreset hirq hrun
  have hstop : ∀ f, s.fetch = .error f → step s = .fault f := fun f hf =>
    calc step s = s.atBoundary.proceed := step_quiet hreset hirq
      _ = .fault f := State.proceed_stop hrun hf
  exact ⟨fun hw => hstop _ (State.fetch_romUnmapped hw),
    fun _ hw hd => hstop _ (State.fetch_undefinedWord hw hd),
    fun _ hw hd => hstop _ (State.fetch_rlcFields hw hd),
    fun _ _ hw hd hi => hstop _ (State.fetch_lacking hw hd hi)⟩

end Sys2Proof.Machine

/-!
The statements of spec/30_encoding.md: what the decoder and the encoder make of each other (R92, R99, R100), and which
words are no instruction (R104, R105). The decoder takes the first row that fits. Within the eleven aliases, and within
the general forms, no two rows share a word, so there the order does not matter; of the general forms only the five of
R99 share words with aliases, each of which lies inside one general form.
-/

namespace Sys2Proof

/-! ### Rows of the opcode map -/

/-- The word has the fixed bits of the row. -/
abbrev DecodeRow.Matches (row : DecodeRow) (w : InstrWord) : Prop := w &&& row.mask = row.pattern

/-- The rows differ in a bit that both fix. -/
abbrev DecodeRow.Apart (row other : DecodeRow) : Prop := row.pattern &&& other.mask ≠ other.pattern &&& row.mask

/-- Every bit that `outer` fixes, `row` fixes to the same value. -/
abbrev DecodeRow.Within (row outer : DecodeRow) : Prop :=
  row.mask &&& outer.mask = outer.mask ∧ row.pattern &&& outer.mask = outer.pattern

theorem DecodeRow.Apart.not_matches {row other : DecodeRow} {w : InstrWord} (h : row.Apart other)
    (hw : row.Matches w) : ¬ other.Matches w := fun ho =>
  h <| calc row.pattern &&& other.mask
    _ = w &&& row.mask &&& other.mask := by rw [hw]
    _ = w &&& other.mask &&& row.mask := by rw [BitVec.and_assoc, BitVec.and_comm row.mask, ← BitVec.and_assoc]
    _ = other.pattern &&& row.mask := by rw [ho]

theorem DecodeRow.Within.matches {row outer : DecodeRow} {w : InstrWord} (h : row.Within outer)
    (hw : row.Matches w) : outer.Matches w := by
  obtain ⟨hmask, hpattern⟩ := h
  calc w &&& outer.mask
    _ = w &&& row.mask &&& outer.mask := by rw [BitVec.and_assoc, hmask]
    _ = outer.pattern := by rw [hw, hpattern]

/-- Where no two rows share a word, the row that fits is the first that fits. -/
theorem find?_matches_of_pairwise {w : InstrWord} {row : DecodeRow} {rows : List DecodeRow}
    (h : rows.Pairwise DecodeRow.Apart) (hrow : row ∈ rows) (hw : row.Matches w) :
    rows.find? (fun row => w &&& row.mask = row.pattern) = some row := by
  obtain ⟨before, after, rfl⟩ := List.append_of_mem hrow
  obtain ⟨-, -, hapart⟩ := List.pairwise_append.1 h
  refine List.find?_eq_some_iff_append.2 ⟨decide_eq_true hw, before, after, rfl, fun other hother => ?_⟩
  simpa using fun ho => (hapart other hother row (by simp)).not_matches ho hw

theorem aliasRows_pairwise_apart : aliasRows.Pairwise DecodeRow.Apart := by decide

theorem generalRows_pairwise_apart : generalRows.Pairwise DecodeRow.Apart := by decide

/-- The aliases are second names of words of general forms (R99). -/
theorem aliasRows_within_generalRows : ∀ row ∈ aliasRows, ∃ outer ∈ generalRows, row.Within outer := by decide

/-! ### What the decoder answers -/

section

variable {w : InstrWord} {row : DecodeRow}

theorem decode_of_alias (hrow : row ∈ aliasRows) (hw : row.Matches w) : decode w = .ok (row.build w) := by
  simp only [decode, List.find?_append, find?_matches_of_pairwise aliasRows_pairwise_apart hrow hw, Option.some_or]

theorem find?_aliasRows_eq_none (h : ∀ row ∈ aliasRows, ¬ row.Matches w) :
    aliasRows.find? (fun row => w &&& row.mask = row.pattern) = none :=
  List.find?_eq_none.2 (by simpa using h)

theorem decode_of_general (hrow : row ∈ generalRows) (hw : row.Matches w)
    (halias : ∀ row ∈ aliasRows, ¬ row.Matches w) : decode w = .ok (row.build w) := by
  simp only [decode, List.find?_append, find?_aliasRows_eq_none halias,
    find?_matches_of_pairwise generalRows_pairwise_apart hrow hw, Option.none_or]

/-- A word that fits no general form fits none of the aliases either. -/
theorem not_matches_aliasRows (h : ∀ row ∈ generalRows, ¬ row.Matches w) : ∀ row ∈ aliasRows, ¬ row.Matches w := by
  intro row hrow hw
  obtain ⟨outer, houter, hwithin⟩ := aliasRows_within_generalRows row hrow
  exact h outer houter (hwithin.matches hw)

theorem decode_of_no_row (h : ∀ row ∈ generalRows, ¬ row.Matches w) :
    decode w = if w &&& 0xFF0 = 0xAF0 then .error .rlcFields else .error .undefinedWord := by
  have hgeneral : generalRows.find? (fun row => w &&& row.mask = row.pattern) = none :=
    List.find?_eq_none.2 (by simpa using h)
  simp only [decode, List.find?_append, find?_aliasRows_eq_none (not_matches_aliasRows h), hgeneral, Option.none_or]

theorem decode_ok_of_matches (hrow : row ∈ generalRows) (hw : row.Matches w) : ∃ i, decode w = .ok i := by
  by_cases halias : ∃ other ∈ aliasRows, other.Matches w
  case pos =>
    obtain ⟨other, hother, ho⟩ := halias
    exact ⟨_, decode_of_alias hother ho⟩
  case neg => exact ⟨_, decode_of_general hrow hw (by simpa using halias)⟩

/-- A word is refused exactly when no general form has it, with the reason that its upper eight bits give. -/
theorem decode_eq_error_iff {e : DecodeError} :
    decode w = .error e ↔
      (∀ row ∈ generalRows, ¬ row.Matches w) ∧ (if w &&& 0xFF0 = 0xAF0 then .rlcFields else .undefinedWord) = e := by
  by_cases h : ∀ row ∈ generalRows, ¬ row.Matches w
  case pos => rw [decode_of_no_row h, ← apply_ite, Except.error.injEq, and_iff_right h]
  case neg =>
    obtain ⟨row, hrow, hw⟩ : ∃ row ∈ generalRows, row.Matches w := by simpa using h
    obtain ⟨i, hi⟩ := decode_ok_of_matches hrow hw
    simp only [hi, reduceCtorEq, h, false_and]

end

/-! ### The fields of a word (R92, R96) -/

@[simp] theorem Reg.ofCode_code (r : Reg) : Reg.ofCode r.code = r := by cases r <;> rfl

@[simp] theorem imm8_append (c : BitVec 4) (e : BitVec 8) : imm8 (c ++ e) = e := BitVec.extractLsb'_append_eq_right

@[simp] theorem imm5_append (c : BitVec 7) (p : BitVec 5) : imm5 (c ++ p) = p := BitVec.extractLsb'_append_eq_right

@[simp] theorem imm4_append (c : BitVec 8) (i : Nibble) : imm4 (c ++ i) = i := BitVec.extractLsb'_append_eq_right

@[simp] theorem selLow_append (c : BitVec 10) (r : Reg) : selLow (c ++ r.code) = r := by
  rw [selLow, BitVec.extractLsb'_append_eq_right, Reg.ofCode_code]

@[simp] theorem selMid_append (c : BitVec 8) (r : Reg) (low : BitVec 2) : selMid (c ++ r.code ++ low) = r := by
  rw [selMid, BitVec.extractLsb'_append_eq_of_le (by decide), BitVec.extractLsb'_append_eq_right, Reg.ofCode_code]

@[simp] theorem selHigh_append (c : BitVec 6) (r : Reg) (i : Nibble) : selHigh (c ++ r.code ++ i) = r := by
  rw [selHigh, BitVec.extractLsb'_append_eq_of_le (by decide), BitVec.extractLsb'_append_eq_right, Reg.ofCode_code]

/-! ### Every instruction has its row -/

namespace Laws.RowMatch

theorem statement (i : Instr) : Statement i := by
  cases i <;> simp only [
    jp, retd, jpC, jpNC, call, calz, jpZ, jpNZ, ldYE, lbpxMXE, adcXHI, adcXLI, adcYHI, adcYLI, cpXHI, cpXLI, cpYHI,
    cpYLI, addRQ, adcRQ, subRQ, sbcRQ, andRQ, orRQ, xorRQ, rlcR, ldXE, addRI, adcRI, andRI, orRI, xorRI, notR,
    sbcRI, fanRI, cpRI, ldRI, pset, ldpxMXI, ldpyMYI, ldXPR, ldXHR, ldXLR, rrcR, ldYPR, ldYHR, ldYLR, ldRXP, ldRXH,
    ldRXL, ldRYP, ldRYH, ldRYL, ldRQ, ldpxRQ, incX, ldpyRQ, incY, cpRQ, fanRQ, acpxMXR, acpyMYR, scpxMXR, scpyMYR,
    setF, scf, szf, sdf, ei, rstF, di, rdf, rzf, rcf, incMn, decMn, ldMnA, ldMnB, ldAMn, ldBMn, pushR, pushXP,
    pushXH, pushXL, pushYP, pushYH, pushYL, pushF, decSP, popR, popXP, popXH, popXL, popYP, popYH, popYL, popF,
    incSP, rets, ret, ldSPHR, ldRSPH, jpba, ldSPLR, ldRSPL, halt, slp, nop5, nop7]

end Laws.RowMatch

/-- The mask and the values of the bits that an instruction's row in the opcode map fixes: the fixed bits of R100, but
for RLC r, which has a row for each operand (R105). -/
def Instr.fixedBits : Instr → InstrWord × InstrWord
  | .rlcR r => (0xFFF, encode (.rlcR r))
  | i => Laws.RowMatch.row i

theorem encode_and_fixedBits (i : Instr) : encode i &&& i.fixedBits.1 = i.fixedBits.2 := by
  cases i
  case rlcR r => cases r <;> rfl
  all_goals exact Laws.RowMatch.statement _

/-- The row with the fixed bits of an instruction. -/
def Instr.rowIn (rows : List DecodeRow) (i : Instr) : Option DecodeRow :=
  rows.find? fun row => (row.mask, row.pattern) = i.fixedBits

section

variable {rows : List DecodeRow} {row : DecodeRow} {i : Instr}

theorem Instr.rowIn_mem (h : i.rowIn rows = some row) : row ∈ rows := List.mem_of_find?_eq_some h

theorem Instr.rowIn_matches (h : i.rowIn rows = some row) : row.Matches (encode i) := by
  have hbits : (row.mask, row.pattern) = i.fixedBits := by simpa using List.find?_some h
  simpa [← hbits] using encode_and_fixedBits i

theorem decode_encode_alias (hrow : i.rowIn aliasRows = some row) (hbuild : row.build (encode i) = i) :
    decode (encode i) = .ok i := by
  rw [decode_of_alias (Instr.rowIn_mem hrow) (Instr.rowIn_matches hrow), hbuild]

/-- A general form, with operands for which its word has no second name. -/
theorem decode_encode_general (hrow : i.rowIn generalRows = some row) (hbuild : row.build (encode i) = i)
    (halias : ∀ other ∈ aliasRows, ¬ other.Matches (encode i)) : decode (encode i) = .ok i := by
  rw [decode_of_general (Instr.rowIn_mem hrow) (Instr.rowIn_matches hrow) halias, hbuild]

/-- A general form whose words have no second name, whatever its operands. -/
theorem decode_encode_unaliased (hrow : i.rowIn generalRows = some row) (hbuild : row.build (encode i) = i)
    (hapart : aliasRows.all (fun other => row.Apart other) = true) : decode (encode i) = .ok i :=
  decode_encode_general hrow hbuild fun other hother =>
    (of_decide_eq_true (List.all_eq_true.1 hapart other hother)).not_matches (Instr.rowIn_matches hrow)

end

/-! ### The five general forms of R99, with the operands that have no second name -/

theorem xorRI_not_alias (r : Reg) (i : Nibble) (h : (Instr.xorRI r i).WellFormed) :
    ∀ row ∈ aliasRows, ¬ row.Matches (encode (.xorRI r i)) := by
  cases r <;> (revert i; decide)

theorem ldpxRQ_not_alias (r q : Reg) (h : (Instr.ldpxRQ r q).WellFormed) :
    ∀ row ∈ aliasRows, ¬ row.Matches (encode (.ldpxRQ r q)) := by
  cases r <;> cases q <;> (revert h; decide)

theorem ldpyRQ_not_alias (r q : Reg) (h : (Instr.ldpyRQ r q).WellFormed) :
    ∀ row ∈ aliasRows, ¬ row.Matches (encode (.ldpyRQ r q)) := by
  cases r <;> cases q <;> (revert h; decide)

theorem setF_not_alias (i : Nibble) (h : (Instr.setF i).WellFormed) :
    ∀ row ∈ aliasRows, ¬ row.Matches (encode (.setF i)) := by
  revert i; decide

theorem rstF_not_alias (i : Nibble) (h : (Instr.rstF i).WellFormed) :
    ∀ row ∈ aliasRows, ¬ row.Matches (encode (.rstF i)) := by
  revert i; decide

/-! ### Decoding what was encoded -/

theorem decode_encode (i : Instr) (h : i.WellFormed) : decode (encode i) = .ok i := by
  cases i
  case incX | incY | scf | szf | sdf | ei | di | rdf | rzf | rcf => exact decode_encode_alias rfl rfl
  case notR r => exact decode_encode_alias rfl (by simp [encode])
  case xorRI r i => exact decode_encode_general rfl (by simp [encode]) (xorRI_not_alias r i h)
  case ldpxRQ r q => exact decode_encode_general rfl (by simp [encode]) (ldpxRQ_not_alias r q h)
  case ldpyRQ r q => exact decode_encode_general rfl (by simp [encode]) (ldpyRQ_not_alias r q h)
  case setF i => exact decode_encode_general rfl (by simp [encode]) (setF_not_alias i h)
  case rstF i => exact decode_encode_general rfl (by simp [encode]) (rstF_not_alias i h)
  case rlcR r => cases r <;> exact decode_encode_unaliased rfl rfl rfl
  all_goals exact decode_encode_unaliased rfl (by simp [encode]) rfl

/-- Settles O42: the word of a well-formed instruction fits its own row and no row before it, and the fields of the
word are the operands it was made of. -/
theorem decodeOfEncode : Obligations.DecodeOfEncode := decode_encode

theorem decode_of_encode_eq {i : Instr} {w : InstrWord} (h : encode i = w) (hi : i.WellFormed) : decode w = .ok i :=
  h ▸ decode_encode i hi

/-- Settles O43: each word is the word of its instruction, which is well formed. -/
theorem wordsOfTheManualDecode : Obligations.WordsOfTheManualDecode := by
  unfold Obligations.WordsOfTheManualDecode
  and_intros <;> exact decode_of_encode_eq rfl rfl

/-! ### The words of a general form, as a range of numbers -/

/-- The least word of a row whose operand fields are its lowest bits. -/
abbrev DecodeRow.lo (row : DecodeRow) : Nat := row.pattern.toNat

/-- One more than the greatest word of a row whose operand fields are its lowest bits. -/
abbrev DecodeRow.hi (row : DecodeRow) : Nat := row.pattern.toNat + (2 ^ 12 - row.mask.toNat)

/-- The row fixes all bits but its `k` lowest. -/
abbrev DecodeRow.FixesAbove (row : DecodeRow) (k : Nat) : Prop :=
  row.mask = BitVec.allOnes 12 <<< k ∧ 2 ^ k ∣ row.lo ∧ row.hi = row.lo + 2 ^ k

/-- Every general form has its operand fields at the low end of the word (R92). -/
theorem generalRows_fixesAbove : ∀ row ∈ generalRows, ∃ k < 12, row.FixesAbove k := by decide

theorem toNat_and_allOnes_shiftLeft (w : InstrWord) (k : Nat) :
    (w &&& BitVec.allOnes 12 <<< k).toNat = w.toNat / 2 ^ k * 2 ^ k := by
  rw [← BitVec.shiftLeft_ushiftRight, BitVec.toNat_shiftLeft, BitVec.toNat_ushiftRight, Nat.shiftLeft_eq,
    Nat.shiftRight_eq_div_pow, Nat.mod_eq_of_lt]
  exact (Nat.div_mul_le_self _ _).trans_lt w.isLt

theorem DecodeRow.FixesAbove.matches_iff {row : DecodeRow} {k : Nat} (h : row.FixesAbove k) (w : InstrWord) :
    row.Matches w ↔ row.lo ≤ w.toNat ∧ w.toNat < row.hi := by
  obtain ⟨hmask, ⟨m, hm⟩, hhi⟩ := h
  have hpos : 0 < 2 ^ k := Nat.two_pow_pos k
  calc row.Matches w
    _ ↔ w.toNat / 2 ^ k * 2 ^ k = row.lo := by rw [← toNat_and_allOnes_shiftLeft, ← hmask, BitVec.toNat_inj]
    _ ↔ w.toNat / 2 ^ k = m := by rw [hm, Nat.mul_comm, Nat.mul_right_inj hpos.ne']
    _ ↔ row.lo ≤ w.toNat ∧ w.toNat < row.hi := by
      rw [Nat.div_eq_iff hpos, hhi, hm, Nat.mul_comm m]
      omega

/-! ### The words of no general form (R104, R105) -/

/-- The number lies in one of the ranges, each given by its least number and one more than its greatest. -/
def InRanges (ranges : List (Nat × Nat)) (n : Nat) : Prop := ∃ range ∈ ranges, range.1 ≤ n ∧ n < range.2

/-- The ranges without the words of a row: of each, what is below the row and what is above it. -/
def cutRow (ranges : List (Nat × Nat)) (row : DecodeRow) : List (Nat × Nat) :=
  ranges.flatMap fun range =>
    [(range.1, min range.2 row.lo), (max range.1 row.hi, range.2)].filter fun part => part.1 < part.2

theorem inRanges_cutRow (ranges : List (Nat × Nat)) (row : DecodeRow) (n : Nat) :
    InRanges (cutRow ranges row) n ↔ InRanges ranges n ∧ ¬ (row.lo ≤ n ∧ n < row.hi) := by
  have hlohi : row.lo ≤ row.hi := Nat.le_add_right _ _
  simp only [InRanges, cutRow, List.mem_flatMap, List.mem_filter, List.mem_cons, List.not_mem_nil, or_false,
    decide_eq_true_eq]
  constructor
  case mp =>
    rintro ⟨part, ⟨range, hrange, hpart | hpart, -⟩, hn⟩ <;> subst hpart <;>
      exact ⟨⟨range, hrange, by omega⟩, by omega⟩
  case mpr =>
    rintro ⟨⟨range, hrange, hn⟩, hrow⟩
    rcases Nat.lt_or_ge n row.lo with hlo | hlo
    · exact ⟨_, ⟨range, hrange, .inl rfl, by omega⟩, by omega⟩
    · exact ⟨_, ⟨range, hrange, .inr rfl, by omega⟩, by omega⟩

theorem inRanges_foldl_cutRow (rows : List DecodeRow) (ranges : List (Nat × Nat)) (n : Nat) :
    InRanges (rows.foldl cutRow ranges) n ↔
      InRanges ranges n ∧ ∀ row ∈ rows, ¬ (row.lo ≤ n ∧ n < row.hi) := by
  induction rows generalizing ranges with
  | nil => simp
  | cons row rows ih => rw [List.foldl_cons, ih, inRanges_cutRow, List.forall_mem_cons, and_assoc]

/-- What is left of the 4,096 words when those of every general form are taken away, one closed computation over the
rows of the map. -/
theorem foldl_cutRow_generalRows :
    generalRows.foldl cutRow [(0, 2 ^ 12)] =
      [(0xAF1, 0xAF5), (0xAF6, 0xAFA), (0xAFB, 0xAFF), (0xE9C, 0xEA0), (0xEAC, 0xEB0), (0xEBC, 0xEC0), (0xED0, 0xEE0),
        (0xF20, 0xF28), (0xF30, 0xF38), (0xFCC, 0xFD0), (0xFDC, 0xFDE), (0xFE9, 0xFF0), (0xFFA, 0xFFB),
        (0xFFC, 0xFFF)] := by decide +kernel

theorem not_matches_generalRows_iff (w : InstrWord) :
    (∀ row ∈ generalRows, ¬ row.Matches w) ↔ InRanges (generalRows.foldl cutRow [(0, 2 ^ 12)]) w.toNat := by
  have hw : InRanges [(0, 2 ^ 12)] w.toNat := ⟨_, List.mem_singleton_self _, Nat.zero_le _, w.isLt⟩
  rw [inRanges_foldl_cutRow, and_iff_right hw]
  refine forall₂_congr fun row hrow => not_congr ?_
  obtain ⟨k, -, hk⟩ := generalRows_fixesAbove row hrow
  exact hk.matches_iff w

/-- The pattern of RLC with its two operand fields left open (R105), as a row of which only the fixed bits matter. -/
theorem and_eq_rlcPattern_iff (w : InstrWord) : w &&& 0xFF0 = 0xAF0 ↔ 0xAF0 ≤ w.toNat ∧ w.toNat < 0xB00 :=
  DecodeRow.FixesAbove.matches_iff (row := ⟨0xFF0, 0xAF0, fun _ => .rlcR .a⟩) (k := 4) (by decide) w

/-- Settles O44: the ranges left by the general forms are those of R104 and R105, and the RLC pattern tells which. -/
theorem exactlyTheUnassignedWordsAreRefused : Obligations.ExactlyTheUnassignedWordsAreRefused := by
  intro w
  simp only [decode_eq_error_iff, not_matches_generalRows_iff, foldl_cutRow_generalRows, InRanges, List.mem_cons,
    List.not_mem_nil, or_false, exists_eq_or_imp, exists_eq_left, and_eq_rlcPattern_iff]
  split
  case isTrue hrlc =>
    simp only [reduceCtorEq, and_false, and_true, false_iff]
    omega
  case isFalse hrlc =>
    simp only [reduceCtorEq, and_false, and_true, false_iff]
    omega

end Sys2Proof

namespace Sys2Proof.Machine

/-! ### Second names (R99) -/

/-- The second names of words: the general form with its operands, and the name the word has besides. -/
inductive AliasOf : Instr → Instr → Prop
  | notR (r : Reg) : AliasOf (.xorRI r 0xF) (.notR r)
  | incX : AliasOf (.ldpxRQ .a .a) .incX
  | incY : AliasOf (.ldpyRQ .a .a) .incY
  | scf : AliasOf (.setF 0x1) .scf
  | szf : AliasOf (.setF 0x2) .szf
  | sdf : AliasOf (.setF 0x4) .sdf
  | ei : AliasOf (.setF 0x8) .ei
  | rcf : AliasOf (.rstF 0xE) .rcf
  | rzf : AliasOf (.rstF 0xD) .rzf
  | rdf : AliasOf (.rstF 0xB) .rdf
  | di : AliasOf (.rstF 0x7) .di

/-- The decoder's name of a word is the instruction's own, but for the eleven of R99. -/
theorem canonical_eq_or_aliasOf (i : Instr) : i.canonical = i ∨ AliasOf i i.canonical := by
  cases i
  case xorRI r i =>
    simp only [Instr.canonical]
    split_ifs with hi
    · subst hi; exact .inr (.notR r)
    · exact .inl rfl
  case ldpxRQ r q =>
    simp only [Instr.canonical]
    split_ifs with hrq
    · obtain ⟨rfl, rfl⟩ := hrq; exact .inr .incX
    · exact .inl rfl
  case ldpyRQ r q =>
    simp only [Instr.canonical]
    split_ifs with hrq
    · obtain ⟨rfl, rfl⟩ := hrq; exact .inr .incY
    · exact .inl rfl
  case setF i =>
    simp only [Instr.canonical]
    split_ifs with hc hz hd hi
    · subst hc; exact .inr .scf
    · subst hz; exact .inr .szf
    · subst hd; exact .inr .sdf
    · subst hi; exact .inr .ei
    · exact .inl rfl
  case rstF i =>
    simp only [Instr.canonical]
    split_ifs with hc hz hd hi
    · subst hc; exact .inr .rcf
    · subst hz; exact .inr .rzf
    · subst hd; exact .inr .rdf
    · subst hi; exact .inr .di
    · exact .inl rfl
  all_goals exact .inl rfl

section

variable {i j : Instr}

theorem AliasOf.encode_eq (h : AliasOf i j) : encode j = encode i := by cases h <;> rfl

theorem AliasOf.clocks_eq (h : AliasOf i j) : j.clocks = i.clocks := by cases h <;> rfl

theorem AliasOf.exec_eq (h : AliasOf i j) (s : State) : exec j s = exec i s := by
  cases h
  case notR r => rfl
  case incX | incY => rfl
  case scf | szf | sdf => simp [exec, execScf, execSzf, execSdf, execSetF]
  case ei => simp [exec, execEi, execSetF] <;> rfl
  case rcf | rzf | rdf | di => simp [exec, execRcf, execRzf, execRdf, execDi, execRstF]

end

/-- Settles O45: the name is the instruction itself or one of the eleven aliases. -/
theorem aliasesMeanTheirGeneralForms : Obligations.AliasesMeanTheirGeneralForms := by
  intro i s
  rcases canonical_eq_or_aliasOf i with h | h
  · rw [h]; exact ⟨rfl, rfl, rfl⟩
  · exact ⟨h.encode_eq, h.clocks_eq, h.exec_eq s⟩

end Sys2Proof.Machine

/-!
The statements of spec/40_branch.md: PSET (R120), the jumps (R121 to R126), the calls (R127, R128), the returns (R129 to
R131) and who changes the bank (R134). A frame of several accesses is put together by `Frame.trans`; the calls rest on
`State.begun_pushRet_completes`, the returns on `State.begun_returnFromStack_completes`, RETD on one lemma for each
order of its pops and stores, and R134 on one case split over the instructions, `exec_inBank`.
-/

namespace Sys2Proof.Machine

section

variable {s u t : State}

/-! ### Frames one after another -/

/-- What happens first and what happens next, the device staying what it is. -/
theorem Frame.trans {P Q : List Piece} {A B : List DataAddr} {l m : List BusEvent} (h : Frame P A l s u)
    (k : Frame Q B m u t) (hdev : Piece.device ∉ P) : Frame (P ++ Q) (A ++ B) (l ++ m) s t := by
  obtain ⟨hpieces, hwords, hbus⟩ := h
  obtain ⟨kpieces, kwords, kbus⟩ := k
  refine ⟨fun p hp => ?_, fun a ha => ?_, kbus.trans (State.busAfter_append m (hpieces .device hdev) hbus)⟩
  · rw [List.mem_append, not_or] at hp
    exact (hpieces p hp.1).trans (kpieces p hp.2)
  · rw [List.mem_append, not_or] at ha
    exact (kwords a ha.2).trans (hwords a ha.1)

/-- No frame speaks of PSETF and IDELAY, which every instruction clears first (R45). -/
theorem Frame.of_begun {P : List Piece} {A : List DataAddr} {l : List BusEvent} (h : Frame P A l s.begun t) :
    Frame P A l s t := by
  obtain ⟨hpieces, hwords, hbus⟩ := h
  refine ⟨fun p hp => ?_, hwords, hbus⟩
  have hsame := hpieces p hp
  cases p <;> exact hsame

/-- The end of most instructions changes the counter alone (R27). -/
theorem Frame.nextPC (s : State) : Frame [] [] [] s s.nextPC :=
  .of_reads (fun p _ => by cases p <;> rfl) rfl rfl rfl

/-! ### PSET (R120) and the jumps (R121 to R126) -/

end

/-- Settles O1: PSET loads NBP and NPP, sets PSETF, and goes to the next address. -/
theorem psetLoadsPagePointers : Obligations.PsetLoadsPagePointers := by
  intro p s
  have hframe : Frame [.nbp, .npp] [] [] s
      { s.begun with nbp := p.extractLsb' 4 1, npp := p.extractLsb' 0 4, psetf := true } :=
    .of_reads (fun q hq => by cases q <;> simp_all [Piece.Same]) rfl rfl rfl
  exact ⟨⟨rfl, rfl⟩, _, rfl, rfl, rfl, rfl, rfl, State.nextPC_pc12 _, hframe.trans (.nextPC _) (by simp)⟩

/-- A taken jump goes where R132 says. -/
theorem State.jumpTo_jumpedTo (s : State) (step : BitVec 8) : JumpedTo s (s.jumpTo step) step := by
  refine ⟨rfl, s.begun.jumpBankPage_pcb s.psetf, s.begun.jumpBankPage_pcp s.psetf, by simp [State.jumpTo],
    by simp [State.jumpTo], .of_reads (fun p hp => ?_) ?_ ?_ ?_⟩
  · cases p <;> simp_all [Piece.Same, State.jumpTo]
  all_goals simp [State.jumpTo]

/-- A jump not taken only advances. -/
theorem State.begun_nextPC_advanced (s : State) : Advanced s s.begun.nextPC ∧ Frame [] [] [] s s.begun.nextPC :=
  ⟨⟨s.begun.nextPC_pc12, rfl, rfl⟩, .of_begun (.nextPC s.begun)⟩

/-- A conditional jump is taken on its condition, however that is stated. -/
theorem State.jumpIf_goes (s : State) (step : BitVec 8) {cond : Bool} {P : Prop} [Decidable P] (h : cond = true ↔ P) :
    if P then JumpedTo s (s.jumpIf cond step) step
    else Advanced s (s.jumpIf cond step) ∧ Frame [] [] [] s (s.jumpIf cond step) := by
  split
  · rw [State.jumpIf, if_pos (by rwa [h])]
    exact s.jumpTo_jumpedTo step
  · rw [State.jumpIf, if_neg (by rwa [h])]
    exact s.begun_nextPC_advanced

/-- Settles O2: JP and JPBA are always taken, the four others on the flag and the value they name. -/
theorem jumpsGoWhereTheySay : Obligations.JumpsGoWhereTheySay := by
  intro step s
  exact ⟨⟨⟨rfl, rfl⟩, _, rfl, s.jumpTo_jumpedTo step⟩,
    ⟨⟨rfl, rfl⟩, _, rfl, s.jumpIf_goes step Iff.rfl⟩,
    ⟨⟨rfl, rfl⟩, _, rfl, s.jumpIf_goes step (by simp)⟩,
    ⟨⟨rfl, rfl⟩, _, rfl, s.jumpIf_goes step Iff.rfl⟩,
    ⟨⟨rfl, rfl⟩, _, rfl, s.jumpIf_goes step (by simp)⟩,
    ⟨⟨rfl, rfl⟩, _, rfl, s.jumpTo_jumpedTo _⟩⟩

/-! ### The calls (R127, R128) -/

section

variable {s u t : State}

/-- A push of a return address at the start of an instruction completes where the three words can be written, and
changes SP and those words alone. -/
theorem State.begun_pushRet_completes (h : s.CanPushReturn) (ret : BitVec 12) :
    ∃ u, s.begun.pushRet ret = .ok u ∧ u.psetf = false ∧ u.idelay = false ∧ u.pcp = s.pcp ∧
      ∀ p : Piece, p ≠ .sp → p.Same s u :=
  ⟨_, (State.pushRet_ok _ _ _).2 ⟨h, rfl⟩, by simp, by simp, by simp,
    fun p hp => by cases p <;> simp_all [Piece.Same]⟩

/-- A pushed return address is still there in a state that differs in registers alone. -/
theorem PushedReturn.of_begun {ret : BitVec 12} {pieces : List Piece} (hu : s.begun.pushRet ret = .ok u)
    (hp : ∀ p, p ∉ pieces → p.Same s t) (hram : t.ram = u.ram) (hres : t.resets = u.resets) (hbus : t.bus = u.bus)
    (hsp : t.sp = u.sp) : PushedReturn s t ret pieces :=
  .of_pushRet hu hp rfl rfl rfl rfl rfl hram hres hbus hsp

end

/-- Settles O3: after the push only the page, by PSETF, and the step are written. -/
theorem callPushesTheReturnAddress : Obligations.CallPushesTheReturnAddress := by
  intro step s h
  obtain ⟨u, hu, hpsetf, hidelay, hpcp, hsame⟩ := State.begun_pushRet_completes h (s.pc12 + 1)
  have hexec : exec (.call step) s = .next { u.callPage s.psetf with pcs := step } :=
    (finish_next _ _).2 ((Res.bind_ok _ _ _).2 ⟨u, hu, rfl⟩)
  have hnpp : u.npp = s.npp := hsame .npp (by decide)
  have hpage : (u.callPage s.psetf).pcp = if s.psetf = true then s.npp else s.pcp := by
    rw [State.callPage_pcp, hnpp, hpcp]
  refine ⟨⟨rfl, rfl⟩, _, hexec, rfl, hpage, by simpa using hpsetf, by simpa using hidelay,
    .of_begun hu (fun p hp => ?_) (by simp) (by simp) (by simp) (by simp)⟩
  exact (hsame p (by simpa using hp)).trans (by cases p <;> simp [Piece.Same])

/-- Settles O4: after the push NPP, the page and the step are written, whatever PSETF was. -/
theorem calzCallsPageZero : Obligations.CalzCallsPageZero := by
  intro step s h
  obtain ⟨u, hu, hpsetf, hidelay, -, hsame⟩ := State.begun_pushRet_completes h (s.pc12 + 1)
  have hexec : exec (.calz step) s = .next { u with npp := 0, pcp := 0, pcs := step } :=
    (finish_next _ _).2 ((Res.bind_ok _ _ _).2 ⟨u, hu, rfl⟩)
  refine ⟨⟨rfl, rfl⟩, _, hexec, rfl, rfl, rfl, hpsetf, hidelay, .of_begun hu (fun p hp => ?_) rfl rfl rfl rfl⟩
  simp only [List.mem_cons, List.not_mem_nil, or_false, not_or] at hp
  obtain ⟨hsp, hnpp⟩ := hp
  exact (hsame p hsp).trans (by cases p <;> simp_all [Piece.Same])

/-! ### The returns RET and RETS (R129, R130) -/

section

variable {s u : State}

/-- The state after the three reads of a return (R72). -/
def State.afterReturnReads (s : State) : State :=
  ((s.afterRead (stackAddr s.sp)).afterRead (stackAddr (s.sp + 1))).afterRead (stackAddr (s.sp + 2))

/-- Where the three words can be read, a pop of a return address gives it and leaves SP three higher. -/
theorem State.popRet_completes (h : s.CanPopReturn) :
    s.popRet = .ok (s.poppedReturn, s.afterReturnReads.setSP (s.sp + 3)) :=
  (State.popRet_ok _ _).2 ⟨h, rfl⟩

/-- The reads and the new SP are all that a pop of a return address is seen to do. -/
theorem Frame.popReturn (s : State) :
    Frame [.sp] [] s.returnReads s (s.afterReturnReads.setSP (s.sp + 3)) :=
  .of_reads (fun p hp => by cases p <;> simp_all [Piece.Same, State.afterReturnReads])
    (by simp [State.afterReturnReads]) (by simp [State.afterReturnReads]) s.returnReads_bus

@[simp] theorem State.begun_returnReads (s : State) : s.begun.returnReads = s.returnReads := by
  simp [State.returnReads]

/-- The counter is in no frame. -/
theorem Frame.setPC12 (s : State) (v : BitVec 12) : Frame [] [] [] s (s.setPC12 v) :=
  .of_reads (fun p _ => by cases p <;> rfl) rfl rfl rfl

/-- A return from the stack at the start of an instruction, where the three words can be read. -/
theorem State.begun_returnFromStack_completes (h : s.CanPopReturn) :
    ∃ u, s.begun.returnFromStack = .ok u ∧ u.pc12 = s.poppedReturn ∧ PoppedReturn s u := by
  have hframe := ((Frame.popReturn s.begun).trans (.setPC12 _ s.begun.poppedReturn) (by simp)).of_begun
  have hpop := State.popRet_completes (s := s.begun) h
  have hreturn := (Res.bind_ok _ (fun p => pure (p.2.setPC12 p.1)) _).2 ⟨_, hpop, rfl⟩
  exact ⟨_, hreturn, by simp, by simp, by simp [State.afterReturnReads], by simp [State.afterReturnReads],
    by simpa using hframe⟩

/-- What has been popped stays popped when the counter goes on by one. -/
theorem PoppedReturn.nextPC (h : PoppedReturn s u) : PoppedReturn s u.nextPC := by
  obtain ⟨hsp, hpsetf, hidelay, hframe⟩ := h
  exact ⟨hsp, hpsetf, hidelay, by simpa using hframe.trans (.nextPC u) (by simp)⟩

end

/-- Settles O5: both pop the return address, and RETS goes one step further. -/
theorem retAndRetsPopTheReturnAddress : Obligations.RetAndRetsPopTheReturnAddress := by
  intro s h
  obtain ⟨u, hu, hpc, hpopped⟩ := State.begun_returnFromStack_completes h
  have hret : exec .ret s = .next u := (finish_next _ _).2 hu
  have hrets : exec .rets s = .next u.nextPC := (finish_next _ _).2 ((Res.bind_ok _ _ _).2 ⟨u, hu, rfl⟩)
  exact ⟨⟨⟨rfl, rfl⟩, u, hret, hpc, hpopped⟩,
    ⟨rfl, rfl⟩, u.nextPC, hrets, by rw [State.nextPC_pc12, hpc], hpopped.nextPC⟩

/-! ### RETD (R131) -/

section

variable {s u t : State}

/-- The state after the two words of a RETD have been stored, low nibble first (R66). -/
def State.afterStorePair (s : State) (e : BitVec 8) : State :=
  (s.afterWrite s.ix (e.extractLsb' 0 4)).afterWrite s.ixNext (e.extractLsb' 4 4)

/-- The two writes a RETD makes, with what they give. -/
def State.pairWrites (s : State) (e : BitVec 8) : List BusEvent :=
  [.write s.ix (e.extractLsb' 0 4), .write s.ixNext (e.extractLsb' 4 4)]

/-- Where the two words can be written, the store of a pair completes. -/
theorem State.storePair_completes (hix : s.CanWrite s.ix) (hnext : s.CanWrite s.ixNext) (e : BitVec 8) :
    s.storePair e = .ok (s.afterStorePair e) :=
  (State.storePair_ok _ _ _).2 ⟨hix, hnext, rfl⟩

/-- The two words and what the peripherals see are all that a store of a pair changes. -/
theorem Frame.storePair (s : State) (e : BitVec 8) :
    Frame [] [s.ix, s.ixNext] (s.pairWrites e) s (s.afterStorePair e) :=
  (Frame.afterWrite s s.ix _).trans (.afterWrite _ s.ixNext _) (by simp)

/-- What is stored is there: the second word is not the first. -/
theorem State.afterStorePair_words (s : State) (e : BitVec 8) :
    (kindAt s.device s.ix = .ram → (s.afterStorePair e).ramWord s.ix = e.extractLsb' 0 4) ∧
    (kindAt s.device s.ixNext = .ram → (s.afterStorePair e).ramWord s.ixNext = e.extractLsb' 4 4) := by
  constructor
  · intro hk
    simp [State.afterStorePair, State.afterWrite_ramWord, hk]
  · intro hk
    simp [State.afterStorePair, State.afterWrite_ramWord, hk]

/-- What a RETD has done from `s` to `t`, with the address it took and the accesses it made in their order: the part of
R131 that both orders share. -/
structure RetdDone (s t : State) (e : BitVec 8) (ret : BitVec 12) (accesses : List BusEvent) : Prop where
  xhl : t.xhl = s.xhl + 2
  sp : t.sp = s.sp + 3
  psetf : t.psetf = false
  idelay : t.idelay = false
  low : kindAt s.device s.ix = .ram → t.ramWord s.ix = e.extractLsb' 0 4
  high : kindAt s.device s.ixNext = .ram → t.ramWord s.ixNext = e.extractLsb' 4 4
  pc12 : t.pc12 = ret
  frame : Frame [.xh, .xl, .sp, .draws] [s.ix, s.ixNext] accesses s t

/-- The model's count of free choices is a piece that a RETD may change. -/
theorem RetdDone.setDraws {e : BitVec 8} {ret : BitVec 12} {accesses : List BusEvent}
    (h : RetdDone s t e ret accesses) (n : Nat) : RetdDone s { t with draws := n } e ret accesses :=
  { h with
    frame := h.frame.more (fun _ hp => hp) (fun p hp => by cases p <;> simp_all [Piece.Same]) rfl rfl rfl }

/-- The increment of X and the new counter are in the frame of a RETD. -/
theorem Frame.endRetd {A : List DataAddr} {l : List BusEvent} (h : Frame [.sp] A l s u) (ret : BitVec 12) :
    Frame [.xh, .xl, .sp, .draws] A l s ((u.bumpX 2).setPC12 ret) :=
  h.more (by simp) (fun p hp => by cases p <;> simp_all [Piece.Same]) rfl rfl rfl

/-- RETD in the order of the manual's operation line: the pops see the stack as it was. -/
theorem State.begun_retdPopThenStore_completes (hpop : s.CanPopReturn) (hix : s.CanWrite s.ix)
    (hnext : s.CanWrite s.ixNext) (e : BitVec 8) :
    ∃ t, s.begun.retdPopThenStore e = .ok t ∧
      RetdDone s t e s.poppedReturn (s.returnReads ++ s.pairWrites e) := by
  have hstore := State.storePair_completes (s := s.begun.afterReturnReads.setSP (s.sp + 3))
    (by simpa [State.afterReturnReads] using hix) (by simpa [State.afterReturnReads] using hnext) e
  have hframe := ((Frame.popReturn s.begun).trans (.storePair _ e) (by simp)).of_begun.endRetd s.begun.poppedReturn
  obtain ⟨hlow, hhigh⟩ := State.afterStorePair_words (s.begun.afterReturnReads.setSP (s.sp + 3)) e
  refine ⟨_, (State.retdPopThenStore_ok _ _ _).2
    ⟨hpop, hix, hnext, _, _, State.popRet_completes hpop, hstore, rfl⟩, ?_⟩
  constructor
  case low => simpa [State.afterReturnReads] using hlow
  case high => simpa [State.afterReturnReads] using hhigh
  case frame => simpa [State.afterReturnReads, State.pairWrites] using hframe
  all_goals simp [State.afterStorePair, State.afterReturnReads]

/-- RETD in the order of the manual's description: the pops see the stack as the stores left it. -/
theorem State.begun_retdStoreThenPop_completes (hpop : s.CanPopReturn) (hix : s.CanWrite s.ix)
    (hnext : s.CanWrite s.ixNext) (e : BitVec 8) :
    ∃ t, s.begun.retdStoreThenPop e = .ok t ∧
      RetdDone s t e (s.afterStorePair e).poppedReturn (s.pairWrites e ++ (s.afterStorePair e).returnReads) := by
  have hbegun : s.begun.afterStorePair e = (s.afterStorePair e).begun := by simp [State.afterStorePair]
  have hpop' : (s.begun.afterStorePair e).CanPopReturn := by simpa [State.afterStorePair] using hpop
  have hframe := ((Frame.storePair s.begun e).trans (.popReturn _) (by simp)).of_begun.endRetd
    (s.begun.afterStorePair e).poppedReturn
  have hstore := State.storePair_completes (s := s.begun) hix hnext e
  obtain ⟨hlow, hhigh⟩ := State.afterStorePair_words s e
  refine ⟨_, (State.retdStoreThenPop_ok _ _ _).2
    ⟨hpop, hix, hnext, _, _, hstore, State.popRet_completes hpop', rfl⟩, ?_⟩
  rw [hbegun] at hframe ⊢
  constructor
  case low => simpa [State.afterReturnReads] using hlow
  case high => simpa [State.afterReturnReads] using hhigh
  case frame => simpa [State.pairWrites] using hframe
  all_goals simp [State.afterStorePair, State.afterReturnReads]

/-- The overlap of R131: a stored word is one of the popped words. -/
theorem State.retdOverlaps_iff (s : State) :
    s.retdOverlaps = true ↔
      s.ix ∈ [stackAddr s.sp, stackAddr (s.sp + 1), stackAddr (s.sp + 2)] ∨
      s.ixNext ∈ [stackAddr s.sp, stackAddr (s.sp + 1), stackAddr (s.sp + 2)] := by
  simp only [State.retdOverlaps, State.retdStoresAt, Bool.or_eq_true, decide_eq_true_eq, List.mem_cons,
    List.not_mem_nil, or_false, eq_comm (a := s.ix), eq_comm (a := s.ixNext)]
  tauto

/-- RETD takes the first order, or, only where they overlap, the second. -/
theorem execRetd_completes {e : BitVec 8} (ht : s.begun.retdPopThenStore e = .ok t)
    (hu : s.begun.retdStoreThenPop e = .ok u) :
    ∃ n, execRetd e s = .next { t with draws := n } ∨
      (s.retdOverlaps = true ∧ execRetd e s = .next { u with draws := n }) := by
  have hexec : execRetd e s = .next (if s.retdOverlaps = true then
      { (bif Config.retdStoresFirst s.draws then u else t) with draws := s.draws + 1 } else t) :=
    (finish_next _ _).2 ((Res.bind_ok _ _ _).2 ⟨t, ht, (Res.bind_ok _ _ _).2 ⟨u, hu, rfl⟩⟩)
  rw [hexec]
  by_cases ho : s.retdOverlaps = true
  · refine ⟨s.draws + 1, ?_⟩
    cases hc : Config.retdStoresFirst s.draws with
    | false => exact .inl (by simp [ho])
    | true => exact .inr ⟨ho, by simp [ho]⟩
  · exact ⟨t.draws, .inl (by simp [ho])⟩

end

/-- Settles O6: either order does what R131 says, and the second is taken only where the words overlap. -/
theorem retdStoresTwoWordsAndReturns : Obligations.RetdStoresTwoWordsAndReturns := by
  intro e s hpop hix hnext
  obtain ⟨t, ht, hfirst⟩ := State.begun_retdPopThenStore_completes hpop hix hnext e
  obtain ⟨u, hu, hsecond⟩ := State.begun_retdStoreThenPop_completes hpop hix hnext e
  refine ⟨⟨rfl, rfl⟩, ?_⟩
  obtain ⟨n, hexec | ⟨hover, hexec⟩⟩ := execRetd_completes ht hu
  · obtain ⟨hxhl, hsp, hpsetf, hidelay, hlow, hhigh, hpc, hframe⟩ := hfirst.setDraws n
    exact ⟨_, hexec, hxhl, hsp, hpsetf, hidelay, hlow, hhigh, .inl ⟨hpc, hframe⟩⟩
  · obtain ⟨hxhl, hsp, hpsetf, hidelay, hlow, hhigh, hpc, hframe⟩ := hsecond.setDraws n
    exact ⟨_, hexec, hxhl, hsp, hpsetf, hidelay, hlow, hhigh, .inr ⟨s.retdOverlaps_iff.1 hover, hpc, hframe⟩⟩

/-! ### Who changes the bank (R134) -/

section

variable {s u t : State}

/-- The state is in the bank. Every update but a taken jump keeps the field, and so this, by definition. -/
def InBank (b : BitVec 1) (s : State) : Prop := s.pcb = b

section

variable {b : BitVec 1}

/-! One data access, and the operations made of data accesses: each stays in the bank. -/

theorem InBank.memRead (h : InBank b s) (addr : DataAddr) : Ensures (fun p => InBank b p.2) (s.memRead addr) :=
  fun p hp => by
    obtain ⟨-, rfl⟩ := (State.memRead_ok _ _ _).1 hp
    simpa [InBank] using h

theorem InBank.memWrite (h : InBank b s) (addr : DataAddr) (v : Nibble) : Ensures (InBank b) (s.memWrite addr v) :=
  fun t ht => by
    obtain ⟨-, rfl⟩ := (State.memWrite_ok _ _ _ _).1 ht
    simpa [InBank] using h

theorem InBank.regRead (h : InBank b s) (r : Reg) : Ensures (fun p => InBank b p.2) (s.regRead r) := fun p hp => by
  obtain ⟨-, rfl⟩ := (State.regRead_ok _ _ _).1 hp
  simpa [InBank] using h

theorem InBank.regWrite (h : InBank b s) (r : Reg) (v : Nibble) : Ensures (InBank b) (s.regWrite r v) := fun t ht => by
  obtain ⟨-, rfl⟩ := (State.regWrite_ok _ _ _ _).1 ht
  simpa [InBank] using h

theorem InBank.arith (h : InBank b s) (f : Nibble → Nibble → AluOut) (r : Reg) (q : Src) :
    Ensures (InBank b) (s.arith f r q) := fun t ht => by
  obtain ⟨-, -, -, rfl⟩ := (State.arith_ok _ _ _ _ _).1 ht
  simpa [InBank] using h

theorem InBank.logic (h : InBank b s) (f : Nibble → Nibble → Nibble) (r : Reg) (q : Src) :
    Ensures (InBank b) (s.logic f r q) := fun t ht => by
  obtain ⟨-, -, -, rfl⟩ := (State.logic_ok _ _ _ _ _).1 ht
  simpa [InBank] using h

theorem InBank.compare (h : InBank b s) (r : Reg) (q : Src) : Ensures (InBank b) (s.compare r q) := fun t ht => by
  obtain ⟨-, -, rfl⟩ := (State.compare_ok _ _ _ _).1 ht
  simpa [InBank] using h

theorem InBank.testBits (h : InBank b s) (r : Reg) (q : Src) : Ensures (InBank b) (s.testBits r q) := fun t ht => by
  obtain ⟨-, -, rfl⟩ := (State.testBits_ok _ _ _ _).1 ht
  simpa [InBank] using h

theorem InBank.arithMem (h : InBank b s) (f : Nibble → Nibble → AluOut) (addr : DataAddr) (r : Reg) :
    Ensures (InBank b) (s.arithMem f addr r) := fun t ht => by
  obtain ⟨-, -, -, rfl⟩ := (State.arithMem_ok _ _ _ _ _).1 ht
  simpa [InBank] using h

theorem InBank.stepDirect (h : InBank b s) (f : Nibble → Nibble → AluOut) (n : Nibble) :
    Ensures (InBank b) (s.stepDirect f n) := fun t ht => by
  obtain ⟨-, -, rfl⟩ := (State.stepDirect_ok _ _ _ _).1 ht
  simpa [InBank] using h

theorem InBank.move (h : InBank b s) (r q : Reg) : Ensures (InBank b) (s.move r q) :=
  (h.regRead q).bind fun _ hx => InBank.regWrite hx r _

theorem InBank.storePair (h : InBank b s) (e : BitVec 8) : Ensures (InBank b) (s.storePair e) :=
  (h.memWrite _ _).bind fun _ hw => InBank.memWrite hw _ _

theorem InBank.loadPart (h : InBank b s) {put : State → Nibble → State} (r : Reg)
    (hput : ∀ w v, InBank b w → InBank b (put w v)) : Ensures (InBank b) (s.loadPart put r) :=
  (h.regRead r).bind fun x hx => .pure (hput x.2 x.1 hx)

theorem InBank.storePart (h : InBank b s) (v : Nibble) (r : Reg) : Ensures (InBank b) (s.storePart v r) :=
  (h.regWrite r v).bind fun _ hw => .pure hw

theorem InBank.pushValue (h : InBank b s) (v : Nibble) : Ensures (InBank b) (s.pushValue v) :=
  (InBank.memWrite (s := s.setSP (s.sp - 1)) h (stackAddr (s.sp - 1)) v).bind fun _ hw => .pure hw

theorem InBank.pop1 (h : InBank b s) : Ensures (fun p => InBank b p.2) s.pop1 :=
  (h.memRead _).bind fun _ hx => .pure hx

theorem InBank.popInto (h : InBank b s) {put : State → Nibble → State}
    (hput : ∀ w v, InBank b w → InBank b (put w v)) : Ensures (InBank b) (s.popInto put) :=
  h.pop1.bind fun x hx => .pure (hput x.2 x.1 hx)

theorem InBank.pushRet (h : InBank b s) (ret : BitVec 12) : Ensures (InBank b) (s.pushRet ret) := fun t ht => by
  obtain ⟨-, rfl⟩ := (State.pushRet_ok _ _ _).1 ht
  simpa [InBank] using h

theorem InBank.popRet (h : InBank b s) : Ensures (fun p => InBank b p.2) s.popRet := fun p hp => by
  obtain ⟨-, rfl⟩ := (State.popRet_ok _ _).1 hp
  simpa [InBank] using h

theorem InBank.returnFromStack (h : InBank b s) : Ensures (InBank b) s.returnFromStack :=
  h.popRet.bind fun _ hx => .pure hx

theorem InBank.retdPopThenStore (h : InBank b s) (e : BitVec 8) : Ensures (InBank b) (s.retdPopThenStore e) :=
  h.popRet.bind fun _ hx => (InBank.storePair hx e).bind fun _ hw => .pure hw

theorem InBank.retdStoreThenPop (h : InBank b s) (e : BitVec 8) : Ensures (InBank b) (s.retdStoreThenPop e) :=
  (h.storePair e).bind fun _ hw => (InBank.popRet hw).bind fun _ hx => .pure hx

theorem InBank.callPage (h : InBank b s) (p : Bool) : InBank b (s.callPage p) := by simpa [InBank] using h

theorem InBank.setInterruptFlag (h : InBank b s) : InBank b s.setInterruptFlag := by simpa [InBank] using h

theorem InBank.popFlags (h : InBank b s) (v : Nibble) : InBank b (s.popFlags v) := by simpa [InBank] using h

/-- An instruction stays in the bank when its meaning does. -/
theorem InBank.of_finish {x : Res State} (h : finish x = .next t) (hx : Ensures (InBank b) x) : InBank b t :=
  hx t ((finish_next x t).1 h)

/-- An instruction that cannot stop stays in the bank when its one answer is in it. -/
theorem InBank.of_next (h : (.next u : Host.Outcome State Fault Refusal) = .next t) (hu : InBank b u) : InBank b t := by
  cases h
  exact hu

end

/-- RETD stays in its bank in either order of its stores and pops (R131). -/
theorem execRetd_inBank {e : BitVec 8} (h : execRetd e s = .next t) : InBank s.pcb t := by
  have hs : InBank s.pcb s.begun := rfl
  refine .of_finish h ((hs.retdPopThenStore e).bind fun p hp => (hs.retdStoreThenPop e).bind fun w hw => .pure ?_)
  split
  · cases Config.retdStoresFirst s.draws
    · exact hp
    · exact hw
  · exact hp

/-- SET F stays in its bank, whether or not it sets I (R200). -/
theorem execSetF_inBank {k : Nibble} (h : execSetF k s = .next t) : InBank s.pcb t := by
  refine .of_next h ?_
  split
  · exact InBank.setInterruptFlag (s := { s.begun with fd := _, fz := _, fc := _ }) rfl
  · rfl

/-- The instructions that a PSET before them can send to another bank (R134). -/
inductive Jumps : Instr → Prop
  | jp (step : BitVec 8) : Jumps (.jp step)
  | jpC (step : BitVec 8) : Jumps (.jpC step)
  | jpNC (step : BitVec 8) : Jumps (.jpNC step)
  | jpZ (step : BitVec 8) : Jumps (.jpZ step)
  | jpNZ (step : BitVec 8) : Jumps (.jpNZ step)
  | jpba : Jumps .jpba

/-- Every other instruction that completes stays in its bank: calls, returns and PSET itself included. -/
theorem exec_inBank {i : Instr} (hi : ¬ Jumps i) (h : exec i s = .next t) : InBank s.pcb t := by
  have hs : InBank s.pcb s.begun := rfl
  cases i
  case jp step => exact absurd (.jp step) hi
  case jpC step => exact absurd (.jpC step) hi
  case jpNC step => exact absurd (.jpNC step) hi
  case jpZ step => exact absurd (.jpZ step) hi
  case jpNZ step => exact absurd (.jpNZ step) hi
  case jpba => exact absurd .jpba hi
  case call => exact .of_finish h ((hs.pushRet _).bind fun _ hw => .pure (InBank.callPage hw _))
  case calz => exact .of_finish h ((hs.pushRet _).bind fun _ hw => .pure hw)
  case ret => exact .of_finish h hs.returnFromStack
  case rets => exact .of_finish h (hs.returnFromStack.bind fun _ hw => .pure hw)
  case retd => exact execRetd_inBank h
  case ei => exact .of_next h hs.setInterruptFlag
  case setF => exact execSetF_inBank h
  case pset | rstF | di | sdf | rdf | halt | slp | nop5 | nop7 | incX | incY | ldXE | ldYE | incSP | decSP | scf | szf
      | rcf | rzf | adcXHI | adcXLI | adcYHI | adcYLI | cpXHI | cpXLI | cpYHI | cpYLI => exact .of_next h hs
  case addRI | addRQ | adcRI | adcRQ | subRQ | sbcRI | sbcRQ => exact .of_finish h (hs.arith _ _ _)
  case andRI | andRQ | orRI | orRQ | xorRI | xorRQ | notR => exact .of_finish h (hs.logic _ _ _)
  case cpRI | cpRQ => exact .of_finish h (hs.compare _ _)
  case fanRI | fanRQ => exact .of_finish h (hs.testBits _ _)
  case incMn | decMn => exact .of_finish h (hs.stepDirect _ _)
  case acpxMXR | acpyMYR | scpxMXR | scpyMYR => exact .of_finish h ((hs.arithMem _ _ _).bind fun _ hw => .pure hw)
  case rlcR =>
    exact .of_finish h ((hs.regRead _).bind fun x hx =>
      (InBank.regWrite (s := x.2.latchA x.1) hx _ _).bind fun _ hw => .pure hw)
  case rrcR => exact .of_finish h ((hs.regRead _).bind fun _ hx => (InBank.regWrite hx _ _).bind fun _ hw => .pure hw)
  case ldXPR | ldXHR | ldXLR | ldYPR | ldYHR | ldYLR => exact .of_finish h (hs.loadPart _ fun _ _ hw => hw)
  case ldRXP | ldRXH | ldRXL | ldRYP | ldRYH | ldRYL => exact .of_finish h (hs.storePart _ _)
  case ldRI | ldRSPH | ldRSPL => exact .of_finish h ((hs.regWrite _ _).bind fun _ hw => .pure hw)
  case ldRQ | ldpxRQ | ldpyRQ => exact .of_finish h ((hs.move _ _).bind fun _ hw => .pure hw)
  case ldSPHR | ldSPLR => exact .of_finish h ((hs.regRead _).bind fun _ hx => .pure hx)
  case ldAMn n | ldBMn n =>
    exact .of_finish h ((InBank.memRead (s := s.begun.loadRP n) hs _).bind fun _ hx => .pure hx)
  case ldMnA n | ldMnB n =>
    exact .of_finish h ((InBank.memWrite (s := s.begun.loadRP n) hs _ _).bind fun _ hw => .pure hw)
  case ldpxMXI | ldpyMYI => exact .of_finish h ((hs.memWrite _ _).bind fun _ hw => .pure hw)
  case lbpxMXE => exact .of_finish h ((hs.storePair _).bind fun _ hw => .pure hw)
  case pushR => exact .of_finish h ((hs.regRead _).bind fun _ hx => InBank.pushValue hx _)
  case pushXP | pushXH | pushXL | pushYP | pushYH | pushYL | pushF => exact .of_finish h (hs.pushValue _)
  case popR => exact .of_finish h (hs.pop1.bind fun _ hx => (InBank.regWrite hx _ _).bind fun _ hw => .pure hw)
  case popXP | popXH | popXL | popYP | popYH | popYL => exact .of_finish h (hs.popInto fun _ _ hw => hw)
  case popF => exact .of_finish h (hs.popInto fun _ v hw => hw.popFlags v)

/-- A jump that leaves its bank was taken right after a PSET, to the bank and page that loaded. -/
theorem JumpedTo.of_pcb_ne {step : BitVec 8} (h : JumpedTo s t step) (hb : t.pcb ≠ s.pcb) :
    s.psetf = true ∧ t.pcb = s.nbp ∧ t.pcp = s.npp := by
  obtain ⟨-, hpcb, hpcp, -⟩ := h
  cases hp : s.psetf with
  | false => exact absurd (by simpa [hp] using hpcb) hb
  | true => exact ⟨rfl, by simpa [hp] using hpcb, by simpa [hp] using hpcp⟩

/-- A conditional jump that leaves its bank was taken. -/
theorem State.jumpIf_of_pcb_ne {cond : Bool} {step : BitVec 8} (hb : (s.jumpIf cond step).pcb ≠ s.pcb) :
    s.psetf = true ∧ (s.jumpIf cond step).pcb = s.nbp ∧ (s.jumpIf cond step).pcp = s.npp := by
  have hgoes := s.jumpIf_goes step (cond := cond) Iff.rfl
  split at hgoes
  · exact hgoes.of_pcb_ne hb
  · obtain ⟨-, hframe, -⟩ := hgoes
    exact absurd (hframe .pcb List.not_mem_nil) hb

end

/-- Settles O58: of the instructions only the six jumps can leave the bank, and of those only a taken one does. -/
theorem onlyJumpsAfterPsetChangeTheBank : Obligations.OnlyJumpsAfterPsetChangeTheBank := by
  intro i s t h hb
  by_cases hi : Jumps i
  · suffices hload : s.psetf = true ∧ t.pcb = s.nbp ∧ t.pcp = s.npp by
      obtain ⟨hpsetf, hpcb, hpcp⟩ := hload
      exact ⟨hpsetf, hpcb, hpcp, by cases hi <;> simp⟩
    cases hi with
    | jp step | jpba => cases h; exact (s.jumpTo_jumpedTo _).of_pcb_ne hb
    | jpC step | jpNC step | jpZ step | jpNZ step => cases h; exact State.jumpIf_of_pcb_ne hb
  · exact absurd (exec_inBank hi h) hb

end Sys2Proof.Machine

/-!
The statements of spec/41_system_control.md: NOP5 and NOP7 (R140, R141), which end as a jump not taken does, and HALT
and SLP (R142, R143), which set RUNSTATE besides; what a stopped core does at a boundary (R43, R45) is
`State.proceed_stopped`.
-/

namespace Sys2Proof.Machine

/-- Settles O7: both are the end that most instructions have, and no more. -/
theorem nopsOnlyAdvance : Obligations.NopsOnlyAdvance := by
  intro s
  exact ⟨⟨⟨rfl, rfl⟩, _, rfl, s.begun_nextPC_advanced⟩, ⟨rfl, rfl⟩, _, rfl, s.begun_nextPC_advanced⟩

/-- RUNSTATE is a piece of its own, and no access is made to set it (R43, D10). -/
theorem Frame.setRunState (s : State) (r : RunState) : Frame [.runState] [] [] s { s with runState := r } :=
  .of_reads (fun p hp => by cases p <;> simp_all [Piece.Same]) rfl rfl rfl

/-- An instruction that sets RUNSTATE and advances changes nothing else. -/
theorem State.begun_nextPC_setRunState_advanced (s : State) (r : RunState) :
    Advanced s { s.begun.nextPC with runState := r } ∧
      Frame [.runState] [] [] s { s.begun.nextPC with runState := r } := by
  obtain ⟨hadvanced, hframe⟩ := s.begun_nextPC_advanced
  exact ⟨hadvanced, hframe.trans (.setRunState _ r) List.not_mem_nil⟩

/-- In HALT and SLEEP nothing is fetched and nothing changes (R43). -/
theorem State.proceed_stopped {s : State} (h : s.runState ≠ .run) : s.proceed = .next s := by
  cases hr : s.runState with
  | run => exact absurd hr h
  | halt | sleep => simp only [State.proceed, hr]

/-- Settles O8: a boundary that nothing happens at leads to `State.proceed`, which leaves a stopped core as it is. -/
theorem haltAndSlpStopUntilAnInterrupt : Obligations.HaltAndSlpStopUntilAnInterrupt := by
  intro s
  refine ⟨⟨⟨rfl, rfl⟩, _, rfl, rfl, s.begun_nextPC_setRunState_advanced .halt⟩,
    ⟨⟨rfl, rfl⟩, _, rfl, rfl, s.begun_nextPC_setRunState_advanced .sleep⟩, fun hstopped hreset hirq => ?_⟩
  calc step s = s.atBoundary.proceed := step_quiet hreset hirq
    _ = .next s.atBoundary := State.proceed_stopped hstopped

end Sys2Proof.Machine

/-!
The statements of spec/42_index.md (R150 to R174). Each instruction here clears PSETF and IDELAY, does its work, and
goes to the next address: `During` says what the work between the first and the last leaves alone, it is put together
from one lemma for each operation, and `During.advanced` adds the two ends. The six parts of IX and IY are the values
of `IndexPart`, so that the six loads share one proof, and so do the four additions.
-/

namespace Sys2Proof.Machine

/-! ### The work of an instruction, between its start and its advance -/

/-- From `s` to `t` the frame holds, and what no frame names, the counter and the hidden bits, is left alone too. -/
structure During (pieces : List Piece) (stored : List DataAddr) (accesses : List BusEvent) (s t : State) : Prop where
  frame : Frame pieces stored accesses s t
  pc12 : t.pc12 = s.pc12
  psetf : t.psetf = s.psetf
  idelay : t.idelay = s.idelay

section

variable {P Q : List Piece} {A B : List DataAddr} {l m : List BusEvent} {s t u : State}

theorem During.trans (h : During P A l s u) (k : During Q B m u t) (hdev : Piece.device ∉ P) :
    During (P ++ Q) (A ++ B) (l ++ m) s t :=
  ⟨h.frame.trans k.frame hdev, k.pc12.trans h.pc12, k.psetf.trans h.psetf, k.idelay.trans h.idelay⟩

/-- A frame may list more pieces than change, in any order. -/
theorem During.mono (h : During P A l s t) (hpq : P ⊆ Q) : During Q A l s t :=
  { h with frame := h.frame.more (fun _ hp => hpq hp) (fun p _ => by cases p <;> rfl) rfl rfl rfl }

/-- An instruction that clears PSETF and IDELAY, does its work and goes to the next address (R27, R45). -/
theorem During.advanced (h : During P A l s.begun u) (hdev : Piece.device ∉ P) :
    Advanced s u.nextPC ∧ Frame P A l s u.nextPC := by
  have hframe := h.frame.trans (.nextPC u) hdev
  simp only [List.append_nil] at hframe
  exact ⟨⟨by rw [State.nextPC_pc12, h.pc12, State.begun_pc12], h.psetf, h.idelay⟩, hframe.of_begun⟩

/-- An update of some pieces, with no access of data memory. -/
theorem During.of_update (hpieces : ∀ p, p ∉ P → p.Same s t) (hram : t.ram = s.ram) (hres : t.resets = s.resets)
    (hbus : t.bus = s.bus) (hpc : t.pc12 = s.pc12) (hpsetf : t.psetf = s.psetf) (hidelay : t.idelay = s.idelay) :
    During P [] [] s t :=
  ⟨.of_reads hpieces hram hres hbus, hpc, hpsetf, hidelay⟩

end

/-! ### What each operation does during an instruction -/

section

variable (s : State) (r : Reg) (v x y : Nibble) (c z : Bool)

theorem During.latch : During [.tempA, .tempB] [] [] s (s.latch x y) :=
  .of_update (fun p hp => by cases p <;> simp_all [Piece.Same]) rfl rfl rfl rfl rfl rfl

theorem During.setCZ : During [.fc, .fz] [] [] s (s.setCZ c z) :=
  .of_update (fun p hp => by cases p <;> simp_all [Piece.Same]) rfl rfl rfl rfl rfl rfl

theorem During.setXhl (e : BitVec 8) : During [.xh, .xl] [] [] s (s.setXhl e) :=
  .of_update (fun p hp => by cases p <;> simp_all [Piece.Same]) rfl rfl rfl rfl rfl rfl

theorem During.setYhl (e : BitVec 8) : During [.yh, .yl] [] [] s (s.setYhl e) :=
  .of_update (fun p hp => by cases p <;> simp_all [Piece.Same]) rfl rfl rfl rfl rfl rfl

/-- Reading an operand changes nothing; a peripheral sees it (R80, R96). -/
theorem During.afterOperand : During [] [] (s.reads r (s.operand r)) s (s.afterOperand r) :=
  ⟨.of_reads (fun p _ => by cases p <;> simp [Piece.Same]) (by simp) (by simp) (s.afterOperand_bus r), by simp,
    by simp, by simp⟩

/-- Writing an operand changes that operand alone; a peripheral sees it (R80, R96). -/
theorem During.afterPut : During (destPieces r) (s.operandAddrs r) (s.writes r v) s (s.afterPut r v) :=
  ⟨⟨fun _ hp => s.afterPut_same r v hp, fun _ ha => s.afterPut_ramWord_ne r v ha, s.afterPut_bus r v⟩, by simp,
    by simp, by simp⟩

@[simp] theorem State.begun_operandAddrs : s.begun.operandAddrs r = s.operandAddrs r := by cases r <;> rfl
@[simp] theorem State.begun_reads : s.begun.reads r v = s.reads r v := by simp [State.reads]
@[simp] theorem State.begun_writes : s.begun.writes r v = s.writes r v := by simp [State.writes]

theorem device_notMem_destPieces : Piece.device ∉ destPieces r := by cases r <;> decide

end

/-! ### INC X, INC Y (R150, R151), LD X,e and LD Y,e (R152, R153) -/

section

variable (s : State) (e : BitVec 8)

/-- X is written, the old X plus one or an immediate, and the counter goes on. -/
theorem State.begun_setXhl_nextPC_advanced :
    (s.begun.setXhl e).nextPC.xhl = e ∧ Advanced s (s.begun.setXhl e).nextPC ∧
      Frame [.xh, .xl] [] [] s (s.begun.setXhl e).nextPC :=
  ⟨by simp, (During.setXhl s.begun e).advanced (by decide)⟩

/-- Y is written, in the same way. -/
theorem State.begun_setYhl_nextPC_advanced :
    (s.begun.setYhl e).nextPC.yhl = e ∧ Advanced s (s.begun.setYhl e).nextPC ∧
      Frame [.yh, .yl] [] [] s (s.begun.setYhl e).nextPC :=
  ⟨by simp, (During.setYhl s.begun e).advanced (by decide)⟩

end

/-- Settles O9: the increments write the old X or Y plus one, as the loads write their immediate. -/
theorem incrementAndLoadIndex : Obligations.IncrementAndLoadIndex := by
  intro e s
  exact ⟨⟨⟨rfl, rfl⟩, _, rfl, s.begun_setXhl_nextPC_advanced (s.xhl + 1)⟩,
    ⟨⟨rfl, rfl⟩, _, rfl, s.begun_setYhl_nextPC_advanced (s.yhl + 1)⟩,
    ⟨⟨rfl, rfl⟩, _, rfl, s.begun_setXhl_nextPC_advanced e⟩,
    ⟨⟨rfl, rfl⟩, _, rfl, s.begun_setYhl_nextPC_advanced e⟩⟩

/-! ### The parts of IX and IY (R23, R24) -/

/-- The six 4-bit parts of the index registers. -/
inductive IndexPart where
  | xp | xh | xl | yp | yh | yl

/-- What a part holds. -/
def IndexPart.get (part : IndexPart) (s : State) : Nibble :=
  match part with
  | .xp => s.xp
  | .xh => s.xh
  | .xl => s.xl
  | .yp => s.yp
  | .yh => s.yh
  | .yl => s.yl

/-- A part written, the others unchanged. -/
def IndexPart.put (part : IndexPart) (s : State) (v : Nibble) : State :=
  match part with
  | .xp => { s with xp := v }
  | .xh => { s with xh := v }
  | .xl => { s with xl := v }
  | .yp => { s with yp := v }
  | .yh => { s with yh := v }
  | .yl => { s with yl := v }

/-- The piece of state a part is. -/
def IndexPart.piece : IndexPart → Piece
  | .xp => .xp
  | .xh => .xh
  | .xl => .xl
  | .yp => .yp
  | .yh => .yh
  | .yl => .yl

section

variable (part : IndexPart) (s : State) (v : Nibble) (c z : Bool)

@[simp] theorem IndexPart.get_put : part.get (part.put s v) = v := by cases part <;> rfl
@[simp] theorem IndexPart.get_setCZ : part.get (s.setCZ c z) = part.get s := by cases part <;> rfl
@[simp] theorem IndexPart.get_nextPC : part.get s.nextPC = part.get s := by cases part <;> rfl

theorem IndexPart.piece_ne_device : part.piece ≠ .device := by cases part <;> decide

/-- Writing a part changes that piece alone. -/
theorem IndexPart.put_during : During [part.piece] [] [] s (part.put s v) := by
  cases part <;> exact .of_update
    (fun p hp => by cases p <;> simp_all [Piece.Same, IndexPart.piece, IndexPart.put]) rfl rfl rfl rfl rfl rfl

end

/-! ### Loads of a part and from a part (R154 to R165) -/

section

variable {r : Reg} {s : State}

/-- The load of a part from an operand: the operand is read first, at the old IX or IY (R76). -/
theorem State.begun_loadPart_completes (h : s.CanReadOperand r) (part : IndexPart) :
    ∃ t, finish (s.begun.loadPart part.put r) = .next t ∧ part.get t = s.operand r ∧ Advanced s t ∧
      Frame [part.piece] [] (s.reads r (s.operand r)) s t := by
  have hload := (State.loadPart_ok s.begun part.put r _).2 ⟨(s.begun_CanReadOperand r).2 h, rfl⟩
  have hduring := (During.afterOperand s.begun r).trans (part.put_during _ (s.begun.operand r)) List.not_mem_nil
  refine ⟨_, (finish_next _ _).2 hload, by simp, ?_⟩
  simpa using hduring.advanced (by simpa using part.piece_ne_device.symm)

/-- The load of an operand: one write and no read. -/
theorem State.begun_storePart_completes (h : s.CanWriteOperand r) (v : Nibble) :
    ∃ t, finish (s.begun.storePart v r) = .next t ∧ s.OperandTook t r v ∧ Advanced s t ∧
      Frame (destPieces r) (s.operandAddrs r) (s.writes r v) s t := by
  have hstore := (State.storePart_ok s.begun v r _).2 ⟨(s.begun_CanWriteOperand r).2 h, rfl⟩
  have htook := (s.begun.afterPut_took r v).congr (t := (s.begun.afterPut r v).nextPC) rfl rfl rfl rfl
  have hadvanced := (During.afterPut s.begun r v).advanced (device_notMem_destPieces r)
  exact ⟨_, (finish_next _ _).2 hstore, htook.source rfl rfl rfl, by simpa using hadvanced⟩

end

/-- Settles O10, part by part. -/
theorem loadPartOfIndexFromOperand : Obligations.LoadPartOfIndexFromOperand := by
  intro r s h
  exact ⟨⟨⟨rfl, rfl⟩, State.begun_loadPart_completes h .xp⟩,
    ⟨⟨rfl, rfl⟩, State.begun_loadPart_completes h .xh⟩,
    ⟨⟨rfl, rfl⟩, State.begun_loadPart_completes h .xl⟩,
    ⟨⟨rfl, rfl⟩, State.begun_loadPart_completes h .yp⟩,
    ⟨⟨rfl, rfl⟩, State.begun_loadPart_completes h .yh⟩,
    ⟨⟨rfl, rfl⟩, State.begun_loadPart_completes h .yl⟩⟩

/-- Settles O11: what is stored is the part as it was before the store. -/
theorem loadOperandFromPartOfIndex : Obligations.LoadOperandFromPartOfIndex := by
  intro r s h
  exact ⟨⟨⟨rfl, rfl⟩, State.begun_storePart_completes h s.xp⟩,
    ⟨⟨rfl, rfl⟩, State.begun_storePart_completes h s.xh⟩,
    ⟨⟨rfl, rfl⟩, State.begun_storePart_completes h s.xl⟩,
    ⟨⟨rfl, rfl⟩, State.begun_storePart_completes h s.yp⟩,
    ⟨⟨rfl, rfl⟩, State.begun_storePart_completes h s.yh⟩,
    ⟨⟨rfl, rfl⟩, State.begun_storePart_completes h s.yl⟩⟩

/-! ### ADD4 and SUB4 with decimal correction off (R245, R246) -/

section

variable (x y : Nibble) (cin : Bool)

theorem add4_hex_out_toNat : (add4 x y cin false).out.toNat = (x.toNat + y.toNat + cin.toNat) % 16 := by
  simp [add4]

theorem add4_hex_c : (add4 x y cin false).c = decide (16 ≤ x.toNat + y.toNat + cin.toNat) := by
  simp [add4]

/-- Z of ADD4 tells whether its output is 0. -/
theorem add4_hex_z : (add4 x y cin false).z = decide ((x.toNat + y.toNat + cin.toNat) % 16 = 0) := by
  rw [← add4_hex_out_toNat]
  exact decide_eq_decide.2 (BitVec.toNat_inj (y := 0)).symm

/-- A difference with no borrow in is negative exactly when the first operand is the smaller. -/
theorem sub4_hex_c : (sub4 x y false false).c = decide (x.toNat < y.toNat) := by
  simp only [sub4, Bool.toNat_false, decide_eq_decide]
  omega

theorem sub4_hex_out : (sub4 x y false false).out = x - y := by
  simp [sub4, sub_eq_add_neg, BitVec.ofInt_add, BitVec.ofInt_neg]

/-- Z of SUB4 tells whether its output, the difference, is 0. -/
theorem sub4_hex_z : (sub4 x y false false).z = decide (x = y) := by
  have hz : (sub4 x y false false).z = decide ((sub4 x y false false).out = 0) := rfl
  rw [hz, sub4_hex_out, decide_eq_decide]
  exact sub_eq_zero

end

/-! ### ADC and CP of a part (R166 to R174) -/

section

variable (part : IndexPart) (s : State) (v i : Nibble)

/-- The comparison of a value with an immediate changes C, Z and the ALU latches alone. -/
theorem State.comparePart_advanced :
    Advanced s (s.comparePart v i) ∧ Frame [.fc, .fz, .tempA, .tempB] [] [] s (s.comparePart v i) := by
  have hduring := (During.latch s.begun v i).trans (.setCZ _ (sub4 v i false false).c (sub4 v i false false).z)
    (by decide)
  exact (hduring.mono (by decide)).advanced (by decide)

/-- The addition to a part changes the part, C, Z and the ALU latches alone. -/
theorem State.addPart_advanced :
    Advanced s (s.addPart part.put v i) ∧
      Frame [part.piece, .fc, .fz, .tempA, .tempB] [] [] s (s.addPart part.put v i) := by
  have hlatch := (During.latch s.begun v i).trans (part.put_during _ (add4 v i s.fc false).out) (by decide)
  have hduring := hlatch.trans (.setCZ _ (add4 v i s.fc false).c (add4 v i s.fc false).z)
    (by simpa using part.piece_ne_device.symm)
  exact (hduring.mono (by simp)).advanced (by simpa using part.piece_ne_device.symm)

/-- The addition to a part gives what ADD4 does with decimal correction off. -/
theorem State.addPart_results :
    part.get (s.addPart part.put v i) = (add4 v i s.fc false).out ∧
    (s.addPart part.put v i).fc = (add4 v i s.fc false).c ∧
    (s.addPart part.put v i).fz = (add4 v i s.fc false).z :=
  ⟨by simp [State.addPart], rfl, rfl⟩

/-- ADC of a part and an immediate, in numbers and as ADD4. -/
theorem State.addPart_completes :
    let t := s.addPart part.put v i
    (part.get t).toNat = (v.toNat + i.toNat + s.fc.toNat) % 16 ∧
      t.fc = decide (16 ≤ v.toNat + i.toNat + s.fc.toNat) ∧
      t.fz = decide ((v.toNat + i.toNat + s.fc.toNat) % 16 = 0) ∧
      (part.get t = (add4 v i s.fc false).out ∧ t.fc = (add4 v i s.fc false).c ∧ t.fz = (add4 v i s.fc false).z) ∧
      Advanced s t ∧ Frame [part.piece, .fc, .fz, .tempA, .tempB] [] [] s t := by
  obtain ⟨hout, hc, hz⟩ := s.addPart_results part v i
  exact ⟨by rw [hout, add4_hex_out_toNat], by rw [hc, add4_hex_c], by rw [hz, add4_hex_z], ⟨hout, hc, hz⟩,
    s.addPart_advanced part v i⟩

end

/-- Settles O12: the additions part by part; the comparisons keep what SUB4 gives. -/
theorem addWithCarryToPartOfIndex : Obligations.AddWithCarryToPartOfIndex := by
  intro i s
  exact ⟨⟨⟨rfl, rfl⟩, _, rfl, s.addPart_completes .xh s.xh i⟩,
    ⟨⟨rfl, rfl⟩, _, rfl, s.addPart_completes .xl s.xl i⟩,
    ⟨⟨rfl, rfl⟩, _, rfl, s.addPart_completes .yh s.yh i⟩,
    ⟨⟨rfl, rfl⟩, _, rfl, s.addPart_completes .yl s.yl i⟩,
    ⟨_, rfl, rfl, rfl, (s.comparePart_advanced s.xh i).2⟩,
    ⟨_, rfl, rfl, rfl, (s.comparePart_advanced s.xl i).2⟩,
    ⟨_, rfl, rfl, rfl, (s.comparePart_advanced s.yh i).2⟩,
    ⟨_, rfl, rfl, rfl, (s.comparePart_advanced s.yl i).2⟩⟩

/-- Settles O13: C is the borrow of SUB4, Z is the zero of its difference. -/
theorem comparePartOfIndex : Obligations.ComparePartOfIndex := by
  intro i s
  exact ⟨⟨⟨rfl, rfl⟩, _, rfl, sub4_hex_c s.xh i, sub4_hex_z s.xh i, s.comparePart_advanced s.xh i⟩,
    ⟨⟨rfl, rfl⟩, _, rfl, sub4_hex_c s.xl i, sub4_hex_z s.xl i, s.comparePart_advanced s.xl i⟩,
    ⟨⟨rfl, rfl⟩, _, rfl, sub4_hex_c s.yh i, sub4_hex_z s.yh i, s.comparePart_advanced s.yh i⟩,
    ⟨⟨rfl, rfl⟩, _, rfl, sub4_hex_c s.yl i, sub4_hex_z s.yl i, s.comparePart_advanced s.yl i⟩⟩

end Sys2Proof.Machine

/-!
The statements of spec/43_data_transfer.md (R180 to R190). An instruction of this part works on data memory or the
operands, then, in the LDPX, LDPY and LBPX forms, moves X or Y on (R76: the accesses are at the old IX and IY), and
goes to the next address. `During.completes` is that shape, with the move of X or Y, or none, as the update `g`.
-/

namespace Sys2Proof.Machine

/-! ### What each operation of a transfer does during an instruction -/

section

variable (s : State) (r q : Reg) (e : BitVec 8) (addr : DataAddr) (v : Nibble)

theorem During.refl : During [] [] [] s s :=
  .of_update (fun p _ => by cases p <;> rfl) rfl rfl rfl rfl rfl rfl

/-- RP alone is loaded with the operand of a direct-addressing instruction (R31). -/
theorem During.loadRP : During [.rp] [] [] s (s.loadRP v) :=
  .of_update (fun p hp => by cases p <;> simp_all [Piece.Same]) rfl rfl rfl rfl rfl rfl

theorem During.bumpX : During [.xh, .xl] [] [] s (s.bumpX e) := .setXhl s (s.xhl + e)

theorem During.bumpY : During [.yh, .yl] [] [] s s.bumpY := .setYhl s (s.yhl + 1)

theorem During.afterRead : During [] [] [.read addr (s.readValue addr)] s (s.afterRead addr) :=
  ⟨.afterRead s addr, by simp, by simp, by simp⟩

theorem During.afterWrite : During [] [addr] [.write addr v] s (s.afterWrite addr v) :=
  ⟨.afterWrite s addr v, by simp, by simp, by simp⟩

theorem During.afterStorePair : During [] [s.ix, s.ixNext] (s.pairWrites e) s (s.afterStorePair e) :=
  ⟨.storePair s e, by simp [State.afterStorePair], by simp [State.afterStorePair], by simp [State.afterStorePair]⟩

/-- The state after an operand has been copied to another. -/
def State.afterMove : State := (s.afterOperand q).afterPut r (s.operand q)

/-- The accesses of a copy: the read of the source, then the write of the destination (R75). -/
def State.moveAccesses : List BusEvent := s.reads q (s.operand q) ++ s.writes r (s.operand q)

@[simp] theorem State.begun_moveAccesses : s.begun.moveAccesses r q = s.moveAccesses r q := by
  simp [State.moveAccesses]
@[simp] theorem State.afterMove_xhl : (s.afterMove r q).xhl = s.xhl := by simp [State.afterMove]
@[simp] theorem State.afterMove_yhl : (s.afterMove r q).yhl = s.yhl := by simp [State.afterMove]

variable {s r q} in
/-- Where the source can be read and the destination written, a copy completes. -/
theorem State.move_completes (hq : s.CanReadOperand q) (hr : s.CanWriteOperand r) :
    s.move r q = .ok (s.afterMove r q) :=
  (State.move_ok _ _ _ _).2 ⟨hq, hr, rfl⟩

/-- The destination and what the peripherals see are all that a copy changes. -/
theorem During.afterMove :
    During (destPieces r) (s.operandAddrs r) (s.moveAccesses r q) s (s.afterMove r q) := by
  have hput := During.afterPut (s.afterOperand q) r (s.operand q)
  rw [State.afterOperand_operandAddrs, State.afterOperand_writes] at hput
  exact (During.afterOperand s q).trans hput List.not_mem_nil

/-- The destination of a copy, at the old IX or IY, holds what the source held. -/
theorem State.afterMove_took : s.OperandTook (s.afterMove r q) r (s.operand q) :=
  ((s.afterOperand q).afterPut_took r (s.operand q)).source (by simp) (by simp) (by simp)

end

/-! ### The shape of a transfer -/

section

variable {P Q : List Piece} {A : List DataAddr} {l : List BusEvent} {s u : State} {x : Res State} {g : State → State}

/-- An update that accesses no memory, after some work. -/
theorem During.update {t : State} (h : During P A l s u) (k : During Q [] [] u t) (hP : Piece.device ∉ P) :
    During (Q ++ P) A l s t := by
  have hpieces : P ++ Q ⊆ Q ++ P :=
    List.append_subset.2 ⟨List.subset_append_right Q P, List.subset_append_left Q P⟩
  simpa using (h.trans k hP).mono hpieces

/-- An instruction whose work answers, with an update that accesses no memory before it goes to the next address. -/
theorem During.completes (hx : x = .ok u) (h : During P A l s.begun u) (k : During Q [] [] u (g u))
    (hP : Piece.device ∉ P) (hQ : Piece.device ∉ Q) :
    finish (do let t ← x; return (g t).nextPC) = .next (g u).nextPC ∧ Advanced s (g u).nextPC ∧
      Frame (Q ++ P) A l s (g u).nextPC :=
  ⟨(finish_next _ _).2 ((Res.bind_ok _ _ _).2 ⟨u, hx, rfl⟩), (h.update k hP).advanced (by simp [hP, hQ])⟩

/-- An update that accesses no memory, and leaves A and B alone, leaves a result where it is. -/
theorem State.OperandTook.during {t : State} {r : Reg} {v : Nibble} (h : s.OperandTook u r v)
    (k : During Q [] l u t) (ha : Piece.a ∉ Q) (hb : Piece.b ∉ Q) : s.OperandTook t r v := by
  obtain ⟨hpieces, hwords, -⟩ := k.frame
  cases r with
  | a => exact Eq.trans (hpieces .a ha) h
  | b => exact Eq.trans (hpieces .b hb) h
  | mx | my => exact fun hk => (hwords _ List.not_mem_nil).trans (h hk)

end

/-! ### LD r,i (R180), LD r,q (R181), LDPX r,q and LDPY r,q (R187, R189) -/

/-- A copy of one operand to another, and an update of X or Y or none. -/
theorem State.begun_move_completes {r q : Reg} {s : State} {Q : List Piece} {g : State → State}
    (hq : s.CanReadOperand q) (hr : s.CanWriteOperand r) (hg : ∀ u, During Q [] [] u (g u)) (ha : Piece.a ∉ Q)
    (hb : Piece.b ∉ Q) (hdev : Piece.device ∉ Q) :
    let t := (g (s.begun.afterMove r q)).nextPC
    finish (do let u ← s.begun.move r q; return (g u).nextPC) = .next t ∧ s.OperandTook t r (s.operand q) ∧
      Advanced s t ∧ Frame (Q ++ destPieces r) (s.operandAddrs r) (s.moveAccesses r q) s t := by
  have hmove := State.move_completes ((s.begun_CanReadOperand q).2 hq) ((s.begun_CanWriteOperand r).2 hr)
  obtain ⟨hexec, hadvanced, hframe⟩ :=
    (During.afterMove s.begun r q).completes hmove (hg _) (device_notMem_destPieces r) hdev
  have htook := (s.begun.afterMove_took r q).during (hg _) ha hb
  rw [State.begun_operandAddrs, State.begun_moveAccesses] at hframe
  rw [State.begun_operand] at htook
  exact ⟨hexec, (htook.source rfl rfl rfl).congr rfl rfl rfl rfl, hadvanced, hframe⟩

/-- Settles O14: LD r,i stores an immediate as the loads from a part of IX or IY store the part. -/
theorem loadImmediate : Obligations.LoadImmediate := by
  intro r i s h
  exact ⟨⟨rfl, rfl⟩, State.begun_storePart_completes h i⟩

/-- Settles O15: a copy and no update. -/
theorem loadRegister : Obligations.LoadRegister := by
  intro r q s hq hr
  exact ⟨⟨rfl, rfl⟩, _, State.begun_move_completes hq hr (g := id) During.refl (by decide) (by decide) (by decide)⟩

/-- Settles O18: a copy, and then X or Y one higher. -/
theorem moveAndIncrement : Obligations.MoveAndIncrement := by
  intro r q s hq hr
  obtain ⟨hexecX, htookX, hendX⟩ := State.begun_move_completes hq hr (g := (State.bumpX · 1)) (During.bumpX · 1)
    (by decide) (by decide) (by decide)
  obtain ⟨hexecY, htookY, hendY⟩ := State.begun_move_completes hq hr (g := State.bumpY) During.bumpY
    (by decide) (by decide) (by decide)
  exact ⟨⟨⟨rfl, rfl⟩, _, hexecX, htookX, by simp, hendX⟩, ⟨rfl, rfl⟩, _, hexecY, htookY, by simp, hendY⟩

/-! ### LD Mn,A and LD Mn,B (R184, R185), LDPX MX,i and LDPY MY,i (R186, R188) -/

/-- A store in one word, after RP is loaded or nothing, and before an update of X or Y or none. -/
theorem State.begun_store_completes {s u : State} {addr : DataAddr} {P Q : List Piece} {g : State → State}
    (h : During P [] [] s.begun u) (hwrite : u.CanWrite addr) (v : Nibble) (hg : ∀ w, During Q [] [] w (g w))
    (hP : Piece.device ∉ P) (hQ : Piece.device ∉ Q) :
    let t := (g (u.afterWrite addr v)).nextPC
    finish (do let w ← u.memWrite addr v; return (g w).nextPC) = .next t ∧
      (kindAt s.device addr = .ram → t.ramWord addr = v) ∧ Advanced s t ∧
      Frame (Q ++ P) [addr] [.write addr v] s t := by
  have hstore := (State.memWrite_ok u addr v _).2 ⟨hwrite, rfl⟩
  have hduring := h.trans (.afterWrite u addr v) hP
  rw [List.append_nil] at hduring
  obtain ⟨hexec, hend⟩ := hduring.completes hstore (hg _) hP hQ
  refine ⟨hexec, fun hk => ?_, hend⟩
  obtain ⟨hpieces, -, -⟩ := h.frame
  obtain ⟨-, hwords, -⟩ := (hg (u.afterWrite addr v)).frame
  have hdevice : u.device = s.device := hpieces .device hP
  calc (g (u.afterWrite addr v)).ramWord addr = (u.afterWrite addr v).ramWord addr := hwords addr List.not_mem_nil
    _ = v := by simp [State.afterWrite_ramWord, hdevice, hk]

/-- Settles O17: a store at the old IX or IY, and then X or Y one higher. -/
theorem storeImmediateAndIncrement : Obligations.StoreImmediateAndIncrement := by
  intro i s
  refine ⟨fun h => ⟨⟨rfl, rfl⟩, ?_⟩, fun h => ⟨⟨rfl, rfl⟩, ?_⟩⟩
  · obtain ⟨hexec, hword, hend⟩ := State.begun_store_completes (.refl s.begun) ((s.begun_CanWrite s.ix).2 h) i
      (g := (State.bumpX · 1)) (During.bumpX · 1) (by decide) (by decide)
    exact ⟨_, hexec, hword, by simp, hend⟩
  · obtain ⟨hexec, hword, hend⟩ := State.begun_store_completes (.refl s.begun) ((s.begun_CanWrite s.iy).2 h) i
      (g := State.bumpY) During.bumpY (by decide) (by decide)
    exact ⟨_, hexec, hword, by simp, hend⟩

/-! ### Direct addressing (R182 to R185) -/

/-- The direct address is 00nH (R65, R69). -/
theorem directAddr_toNat (n : Nibble) : (directAddr n).toNat = n.toNat :=
  (BitVec.toNat_append 0#8 n).trans (by simp)

/-- A store of a register at a direct address. -/
theorem State.begun_storeDirect_completes {s : State} {n : Nibble} (h : s.CanWrite (directAddr n)) (v : Nibble) :
    ∃ t, finish (do let t ← (s.begun.loadRP n).memWrite (directAddr n) v; return t.nextPC) = .next t ∧
      (kindAt s.device (directAddr n) = .ram → t.ramWord (directAddr n) = v) ∧ Advanced s t ∧
      Frame [.rp] [directAddr n] [.write (directAddr n) v] s t :=
  ⟨_, State.begun_store_completes (.loadRP s.begun n) ((State.loadRP_CanWrite _ _ _).2 h) v (g := id) During.refl
    (by decide) (by decide)⟩

/-- A load of a register, A or B, from a direct address. -/
theorem State.begun_loadDirect_completes {s : State} {n : Nibble} (h : s.CanRead (directAddr n))
    {put : State → Nibble → State} {P : List Piece} (hput : ∀ u v, During P [] [] u (put u v))
    (hP : Piece.device ∉ P) :
    let t := (put ((s.begun.loadRP n).afterRead (directAddr n)) (s.readValue (directAddr n))).nextPC
    finish (do let (v, t) ← (s.begun.loadRP n).memRead (directAddr n); return (put t v).nextPC) = .next t ∧
      Advanced s t ∧ Frame (P ++ [.rp]) [] [.read (directAddr n) (s.readValue (directAddr n))] s t := by
  have hread := (State.memRead_ok (s.begun.loadRP n) (directAddr n) _).2 ⟨(State.loadRP_CanRead _ _ _).2 h, rfl⟩
  have hduring := (During.loadRP s.begun n).trans (.afterRead _ (directAddr n)) (by decide)
  exact ⟨(finish_next _ _).2 ((Res.bind_ok _ _ _).2 ⟨_, hread, rfl⟩),
    (hduring.update (hput _ (s.readValue (directAddr n))) (by decide)).advanced (by simp [hP])⟩

/-- Settles O16: RP takes n, and the one access is at 00nH. -/
theorem directLoadsAndStores : Obligations.DirectLoadsAndStores := by
  intro n s
  refine ⟨directAddr_toNat n, fun h => ⟨⟨rfl, rfl⟩, ?_⟩, fun h => ⟨⟨rfl, rfl⟩, ?_⟩,
    fun h => ⟨⟨rfl, rfl⟩, State.begun_storeDirect_completes h s.a⟩,
    fun h => ⟨⟨rfl, rfl⟩, State.begun_storeDirect_completes h s.b⟩⟩
  · obtain ⟨hexec, hend⟩ := State.begun_loadDirect_completes h (During.afterPut · .a ·) (by decide)
    exact ⟨_, hexec, rfl, hend⟩
  · obtain ⟨hexec, hend⟩ := State.begun_loadDirect_completes h (During.afterPut · .b ·) (by decide)
    exact ⟨_, hexec, rfl, hend⟩

/-! ### LBPX MX,e (R190) -/

/-- Settles O19: the two words are stored at the old X and X + 1 in the page, and then X is two higher (R68). -/
theorem lbpxStoresAByteInTwoWords : Obligations.LbpxStoresAByteInTwoWords := by
  intro e s hix hnext
  obtain ⟨hexec, hend⟩ := (During.afterStorePair s.begun e).completes
    (State.storePair_completes (s := s.begun) hix hnext e) (g := (State.bumpX · 2)) (.bumpX _ 2) (by decide) (by decide)
  obtain ⟨hlow, hhigh⟩ := s.begun.afterStorePair_words e
  exact ⟨⟨rfl, rfl⟩, _, hexec, hlow, hhigh, by simp [State.afterStorePair], hend⟩

end Sys2Proof.Machine

/-!
The statements of spec/44_flag.md (R200 to R209). A flag written is `Flag.put`: the one-flag instructions write one, RST F
writes four in turn, and SET F writes C, Z and D. Setting I is apart (`State.setInterruptFlag`), since it sets IDELAY
too (R42): EI is that alone, and SET F ends with it when its bit 3 is 1.
-/

namespace Sys2Proof.Machine

/-! ### The four flags (R29) -/

/-- The flags of F. -/
inductive Flag where
  | c | z | d | i

/-- What a flag holds. -/
def Flag.get (flag : Flag) (s : State) : Bool :=
  match flag with
  | .c => s.fc
  | .z => s.fz
  | .d => s.fd
  | .i => s.fi

/-- A flag written, the others unchanged. -/
def Flag.put (flag : Flag) (v : Bool) (s : State) : State :=
  match flag with
  | .c => { s with fc := v }
  | .z => { s with fz := v }
  | .d => { s with fd := v }
  | .i => { s with fi := v }

/-- The piece of state a flag is. -/
def Flag.piece : Flag → Piece
  | .c => .fc
  | .z => .fz
  | .d => .fd
  | .i => .fi

section

variable (flag : Flag) (v : Bool) (s : State)

theorem Flag.get_put : flag.get (flag.put v s) = v := by cases flag <;> rfl

theorem Flag.get_nextPC : flag.get s.nextPC = flag.get s := by cases flag <;> rfl

theorem Flag.piece_ne_device : flag.piece ≠ .device := by cases flag <;> decide

/-- Writing a flag changes that flag alone. -/
theorem Flag.put_during : During [flag.piece] [] [] s (flag.put v s) := by
  cases flag <;> exact .of_update
    (fun p hp => by cases p <;> simp_all [Piece.Same, Flag.piece, Flag.put]) rfl rfl rfl rfl rfl rfl

/-- An instruction that writes one flag and advances. -/
theorem State.begun_putFlag_nextPC_advanced :
    flag.get (flag.put v s.begun).nextPC = v ∧ Advanced s (flag.put v s.begun).nextPC ∧
      Frame [flag.piece] [] [] s (flag.put v s.begun).nextPC :=
  ⟨by rw [flag.get_nextPC, flag.get_put],
    (flag.put_during v s.begun).advanced (by simpa using flag.piece_ne_device.symm)⟩

end

/-! ### When no request is accepted (R311) -/

section

variable {s : State}

/-- With I at 0 no request is accepted. -/
theorem State.acceptsInterrupt_of_fi (h : s.fi = false) : s.acceptsInterrupt = false := by
  simp [State.acceptsInterrupt, h]

/-- With IDELAY at 1 no request is accepted. -/
theorem State.acceptsInterrupt_of_idelay (h : s.idelay = true) : s.acceptsInterrupt = false := by
  simp [State.acceptsInterrupt, h]

end

/-! ### SCF, RCF, SZF, RZF, SDF, RDF and DI (R202 to R207, R209) -/

/-- Settles O22: each writes its one flag; DI leaves I at 0, where no request is accepted. -/
theorem oneFlagInstructions : Obligations.OneFlagInstructions := by
  intro s
  obtain ⟨hfi, hadvanced, hframe⟩ := s.begun_putFlag_nextPC_advanced .i false
  exact ⟨⟨⟨rfl, rfl⟩, _, rfl, s.begun_putFlag_nextPC_advanced .c true⟩,
    ⟨⟨rfl, rfl⟩, _, rfl, s.begun_putFlag_nextPC_advanced .c false⟩,
    ⟨⟨rfl, rfl⟩, _, rfl, s.begun_putFlag_nextPC_advanced .z true⟩,
    ⟨⟨rfl, rfl⟩, _, rfl, s.begun_putFlag_nextPC_advanced .z false⟩,
    ⟨⟨rfl, rfl⟩, _, rfl, s.begun_putFlag_nextPC_advanced .d true⟩,
    ⟨⟨rfl, rfl⟩, _, rfl, s.begun_putFlag_nextPC_advanced .d false⟩,
    ⟨rfl, rfl⟩, _, rfl, hfi, hadvanced, hframe, State.acceptsInterrupt_of_fi hfi⟩

/-! ### RST F (R201) -/

/-- C, Z and D written in turn. -/
def State.putCZD (c z d : Bool) (s : State) : State := Flag.d.put d (Flag.z.put z (Flag.c.put c s))

@[simp] theorem State.putCZD_fi (c z d : Bool) (s : State) : (s.putCZD c z d).fi = s.fi := rfl

/-- C, Z and D are all that their writing changes. -/
theorem During.putCZD (c z d : Bool) (s : State) : During [.fc, .fz, .fd] [] [] s (s.putCZD c z d) :=
  ((Flag.c.put_during c s).trans (Flag.z.put_during z _) (by decide)).trans (Flag.d.put_during d _) (by decide)

/-- Settles O21: every flag takes its old value and its mask bit; with the bit of I at 0, I is 0 and no request is
accepted. -/
theorem resetFlagsImmediate : Obligations.ResetFlagsImmediate := by
  intro i s
  have hduring := (During.putCZD (s.fc && i.getLsbD 0) (s.fz && i.getLsbD 1) (s.fd && i.getLsbD 2) s.begun).trans
    (Flag.i.put_during (s.fi && i.getLsbD 3) _) (by decide)
  obtain ⟨hadvanced, hframe⟩ := (hduring.mono (Q := [.fc, .fz, .fd, .fi]) (by decide)).advanced (by decide)
  refine ⟨⟨rfl, rfl⟩, _, rfl, rfl, rfl, rfl, rfl, hadvanced, hframe, fun hbit => State.acceptsInterrupt_of_fi ?_⟩
  calc (s.fi && i.getLsbD 3) = (s.fi && false) := by rw [hbit]
    _ = false := Bool.and_false _

/-! ### EI and SET F (R42, R200, R208) -/

/-- Setting I changes I alone; the free value of IDELAY that it may take is counted (log entry 5). -/
theorem Frame.setInterruptFlag (s : State) : Frame [.fi, .draws] [] [] s s.setInterruptFlag :=
  .of_reads (fun p hp => by cases p <;> simp_all [Piece.Same]) (by simp) (by simp) s.setInterruptFlag_bus

/-- Turning I from 0 to 1 sets IDELAY (R42). -/
theorem State.setInterruptFlag_delays {s : State} (h : s.fi = false) : s.setInterruptFlag.idelay = true := by
  rw [State.setInterruptFlag_idelay, if_neg (by simp [h])]

/-- An instruction that sets I after some work that leaves the device as it is, and advances. -/
theorem During.setInterruptFlag_nextPC {P : List Piece} {s u : State} (h : During P [] [] s.begun u)
    (hdev : Piece.device ∉ P) :
    let t := u.setInterruptFlag.nextPC
    t.psetf = false ∧ t.pc12 = s.pc12 + 1 ∧ Frame (P ++ [.fi, .draws]) [] [] s t := by
  have hframe := (h.frame.trans (.setInterruptFlag u) hdev).trans (.nextPC _) (by simp [hdev])
  rw [List.append_nil] at hframe
  refine ⟨by simp [h.psetf], ?_, hframe.of_begun⟩
  calc u.setInterruptFlag.nextPC.pc12 = u.setInterruptFlag.pc12 + 1 := State.nextPC_pc12 _
    _ = u.pc12 + 1 := by simp [State.pc12]
    _ = s.pc12 + 1 := by rw [h.pc12, State.begun_pc12]

/-- Settles O23: EI sets I and does no other work; IDELAY, when it is set, withholds the next request. -/
theorem eiEnablesAfterOneMoreInstruction : Obligations.EiEnablesAfterOneMoreInstruction := by
  intro s
  obtain ⟨hpsetf, hpc, hframe⟩ := (During.refl s.begun).setInterruptFlag_nextPC (by decide)
  refine ⟨⟨rfl, rfl⟩, _, rfl, s.begun.setInterruptFlag_fi, hpsetf, hpc, hframe, fun hfi => ?_⟩
  have hidelay := State.setInterruptFlag_delays (s := s.begun) hfi
  exact ⟨hidelay, State.acceptsInterrupt_of_idelay hidelay⟩

/-- SET F: C, Z and D take their bits, and then I is set when its bit is 1 (R200). -/
theorem exec_setF (i : Nibble) (s : State) :
    exec (.setF i) s =
      let u := s.begun.putCZD (s.fc || i.getLsbD 0) (s.fz || i.getLsbD 1) (s.fd || i.getLsbD 2)
      .next (if i.getLsbD 3 = true then u.setInterruptFlag else u).nextPC :=
  rfl

/-- Settles O20: with bit 3 at 1, C, Z and D are written and I is set as EI sets it; with bit 3 at 0, C, Z and D are
written and no more. -/
theorem setFlagsImmediate : Obligations.SetFlagsImmediate := by
  intro i s
  have hduring := During.putCZD (s.fc || i.getLsbD 0) (s.fz || i.getLsbD 1) (s.fd || i.getLsbD 2) s.begun
  refine ⟨⟨rfl, rfl⟩, _, exec_setF i s, ?_⟩
  cases hbit : i.getLsbD 3 with
  | true =>
    rw [if_pos rfl]
    obtain ⟨hpsetf, hpc, hframe⟩ := hduring.setInterruptFlag_nextPC (by decide)
    exact ⟨State.setInterruptFlag_fc _, State.setInterruptFlag_fz _, State.setInterruptFlag_fd _,
      (State.setInterruptFlag_fi _).trans (Bool.or_true _).symm, fun _ hfi => State.setInterruptFlag_delays hfi,
      nofun, hpsetf, hpc, hframe⟩
  | false =>
    rw [if_neg Bool.false_ne_true]
    obtain ⟨⟨hpc, hpsetf, hidelay⟩, hframe⟩ :=
      (hduring.mono (Q := [.fc, .fz, .fd, .fi, .draws]) (by decide)).advanced (by decide)
    exact ⟨rfl, rfl, rfl, by simp, nofun, fun _ => hidelay, hpsetf, hpc, hframe⟩

end Sys2Proof.Machine

/-!
The statements of spec/45_stack.md (R215 to R236). A push is SP stepped down and then one write, a pop is one read and
then SP stepped up (R71): `During.afterPush` and `During.afterPop` say what each changes. `During.pushed` is an
instruction that pushes after some reads or none; `State.begun_popInto_completes` is one that pops into a place of the
state. The loads of a half of SP (R233 to R236) have the shape of the loads of a part of IX or IY.
-/

namespace Sys2Proof.Machine

/-! ### Pushes and pops (R71) -/

section

variable (s : State) (v : Nibble) (r : Reg)

/-- The state after a push. -/
def State.afterPush : State := (s.setSP (s.sp - 1)).afterWrite (stackAddr (s.sp - 1)) v

/-- The state after a pop. -/
def State.afterPop : State := (s.afterRead (stackAddr s.sp)).setSP (s.sp + 1)

theorem State.afterPush_sp : (s.afterPush v).sp = s.sp - 1 := by simp [State.afterPush]

/-- A pushed value is the word at the new SP, where that is RAM. -/
theorem State.afterPush_word (h : kindAt s.device (stackAddr (s.sp - 1)) = .ram) :
    (s.afterPush v).ramWord (stackAddr (s.sp - 1)) = v :=
  (State.afterWrite_ramWord _ _ _ v).trans (if_pos ⟨rfl, h⟩)

@[simp] theorem State.afterPop_sp : s.afterPop.sp = s.sp + 1 := rfl
@[simp] theorem State.afterPop_device : s.afterPop.device = s.device := by simp [State.afterPop]
@[simp] theorem State.afterPop_ix : s.afterPop.ix = s.ix := by simp [State.afterPop]
@[simp] theorem State.afterPop_iy : s.afterPop.iy = s.iy := by simp [State.afterPop]
@[simp] theorem State.afterPop_fi : s.afterPop.fi = s.fi := by simp [State.afterPop]
@[simp] theorem State.afterPop_operandAddrs : s.afterPop.operandAddrs r = s.operandAddrs r := by
  cases r <;> simp [State.operandAddrs]
@[simp] theorem State.afterPop_writes : s.afterPop.writes r v = s.writes r v := by simp [State.writes]
@[simp] theorem State.afterPop_CanWriteOperand : s.afterPop.CanWriteOperand r ↔ s.CanWriteOperand r := by
  simp [State.afterPop]

theorem During.setSP (e : BitVec 8) : During [.sp] [] [] s (s.setSP e) :=
  .of_update (fun p hp => by cases p <;> simp_all [Piece.Same]) rfl rfl rfl rfl rfl rfl

/-- SP and the word at the new SP are all that a push changes. -/
theorem During.afterPush :
    During [.sp] [stackAddr (s.sp - 1)] [.write (stackAddr (s.sp - 1)) v] s (s.afterPush v) :=
  (During.setSP s (s.sp - 1)).trans (.afterWrite _ _ v) (by decide)

/-- SP is all that a pop changes; a peripheral sees the read. -/
theorem During.afterPop : During [.sp] [] [.read (stackAddr s.sp) (s.readValue (stackAddr s.sp))] s s.afterPop :=
  (During.afterRead s (stackAddr s.sp)).trans (.setSP _ (s.sp + 1)) List.not_mem_nil

end

/-! ### INC SP and DEC SP (R215, R216) -/

/-- SP is written, and the counter goes on. -/
theorem State.begun_setSP_nextPC_advanced (s : State) (e : BitVec 8) :
    (s.begun.setSP e).nextPC.sp = e ∧ Advanced s (s.begun.setSP e).nextPC ∧
      Frame [.sp] [] [] s (s.begun.setSP e).nextPC :=
  ⟨rfl, (During.setSP s.begun e).advanced (by decide)⟩

/-- Settles O24: SP is written with the old SP plus or minus one. -/
theorem stackPointerSteps : Obligations.StackPointerSteps := by
  intro s
  exact ⟨⟨⟨rfl, rfl⟩, _, rfl, s.begun_setSP_nextPC_advanced (s.sp + 1)⟩,
    ⟨⟨rfl, rfl⟩, _, rfl, s.begun_setSP_nextPC_advanced (s.sp - 1)⟩⟩

/-! ### PUSH (R217 to R224) -/

/-- A push after accesses that change nothing, at the end of an instruction. -/
theorem During.pushed {l : List BusEvent} {s u : State} (h : During [] [] l s.begun u) (v : Nibble) :
    Pushed s (u.afterPush v).nextPC v l ∧ Advanced s (u.afterPush v).nextPC := by
  obtain ⟨hpieces, -, -⟩ := h.frame
  have hsp : u.sp = s.sp := hpieces .sp List.not_mem_nil
  have hdevice : u.device = s.device := hpieces .device List.not_mem_nil
  obtain ⟨hadvanced, hframe⟩ := (h.trans (.afterPush u v) List.not_mem_nil).advanced (by decide)
  rw [hsp] at hframe
  refine ⟨⟨?_, fun hk => ?_, hframe⟩, hadvanced⟩
  · rw [← hsp]
    exact u.afterPush_sp v
  · rw [← hsp, ← hdevice] at hk
    rw [← hsp]
    exact u.afterPush_word v hk

/-- Where the word below SP can be written, a push completes. -/
theorem State.pushValue_completes {s : State} (h : s.CanWrite (stackAddr (s.sp - 1))) (v : Nibble) :
    s.pushValue v = .ok (s.afterPush v).nextPC :=
  (State.pushValue_ok s v _).2 ⟨h, rfl⟩

/-- PUSH of a value that the instruction has at its start. -/
theorem State.begun_pushValue_completes {s : State} (h : s.CanWrite (stackAddr (s.sp - 1))) (v : Nibble) :
    ∃ t, finish (s.begun.pushValue v) = .next t ∧ Pushed s t v [] ∧ Advanced s t :=
  ⟨_, (finish_next _ _).2 (State.pushValue_completes (s := s.begun) h v), (During.refl s.begun).pushed v⟩

/-- Settles O25: the operand is read at the old state, and then its value is pushed. -/
theorem pushOperand : Obligations.PushOperand := by
  intro r s hread hwrite
  have hoperand := (State.regRead_ok s.begun r _).2 ⟨(s.begun_CanReadOperand r).2 hread, rfl⟩
  have hpush := State.pushValue_completes (s := s.begun.afterOperand r) (by simpa using hwrite) (s.operand r)
  have hduring := During.afterOperand s.begun r
  rw [State.begun_reads, State.begun_operand] at hduring
  exact ⟨⟨rfl, rfl⟩, _, (finish_next _ _).2 ((Res.bind_ok _ _ _).2 ⟨_, hoperand, hpush⟩),
    hduring.pushed (s.operand r)⟩

/-- Settles O26: the flags are laid out in the order of the model's F. -/
theorem pushPartOfIndexOrFlags : Obligations.PushPartOfIndexOrFlags := by
  intro s h
  exact ⟨⟨⟨rfl, rfl⟩, State.begun_pushValue_completes h s.xp⟩,
    ⟨⟨rfl, rfl⟩, State.begun_pushValue_completes h s.xh⟩,
    ⟨⟨rfl, rfl⟩, State.begun_pushValue_completes h s.xl⟩,
    ⟨⟨rfl, rfl⟩, State.begun_pushValue_completes h s.yp⟩,
    ⟨⟨rfl, rfl⟩, State.begun_pushValue_completes h s.yh⟩,
    ⟨⟨rfl, rfl⟩, State.begun_pushValue_completes h s.yl⟩,
    ⟨⟨rfl, rfl⟩, State.begun_pushValue_completes h s.flags⟩⟩

/-! ### POP r (R225) and POP of a part of IX or IY (R226 to R231) -/

/-- Settles O27: the word at SP is read, and then the operand is written with it, at the old IX or IY. -/
theorem popOperand : Obligations.PopOperand := by
  intro r s hread hwrite v
  have hpop := (State.pop1_ok s.begun _).2 ⟨hread, rfl⟩
  have hstore := (State.storePart_ok s.begun.afterPop v r _).2 ⟨by simpa using hwrite, rfl⟩
  have htook := (s.begun.afterPop.afterPut_took r v).congr (t := (s.begun.afterPop.afterPut r v).nextPC)
    rfl rfl rfl rfl
  have hduring := (During.afterPop s.begun).trans (.afterPut _ r v) (by decide)
  have hadvanced := hduring.advanced (by simpa using device_notMem_destPieces r)
  exact ⟨⟨rfl, rfl⟩, _, (finish_next _ _).2 ((Res.bind_ok _ _ _).2 ⟨_, hpop, hstore⟩),
    htook.source (by simp) (by simp) (by simp), by simp, by simpa using hadvanced⟩

/-- POP into some place of the state: what the place holds then is the caller's. -/
theorem State.begun_popInto_completes {s : State} (h : s.CanRead (stackAddr s.sp)) (put : State → Nibble → State) :
    finish (s.begun.popInto put) = .next (put s.begun.afterPop (s.readValue (stackAddr s.sp))).nextPC :=
  (finish_next _ _).2 ((State.popInto_ok s.begun put _).2 ⟨h, rfl⟩)

/-- POP into a part of IX or IY. -/
theorem State.begun_popPart_completes {s : State} (h : s.CanRead (stackAddr s.sp)) (part : IndexPart) :
    ∃ t, finish (s.begun.popInto part.put) = .next t ∧ part.get t = s.readValue (stackAddr s.sp) ∧
      t.sp = s.sp + 1 ∧ Advanced s t ∧
      Frame [part.piece, .sp] [] [.read (stackAddr s.sp) (s.readValue (stackAddr s.sp))] s t := by
  have hput := part.put_during s.begun.afterPop (s.readValue (stackAddr s.sp))
  have hadvanced := ((During.afterPop s.begun).update hput (by decide)).advanced
    (by simpa using part.piece_ne_device.symm)
  exact ⟨_, State.begun_popInto_completes h part.put, by simp, by cases part <;> rfl, hadvanced⟩

/-- Settles O28, part by part. -/
theorem popPartOfIndex : Obligations.PopPartOfIndex := by
  intro s h
  exact ⟨⟨⟨rfl, rfl⟩, State.begun_popPart_completes h .xp⟩,
    ⟨⟨rfl, rfl⟩, State.begun_popPart_completes h .xh⟩,
    ⟨⟨rfl, rfl⟩, State.begun_popPart_completes h .xl⟩,
    ⟨⟨rfl, rfl⟩, State.begun_popPart_completes h .yp⟩,
    ⟨⟨rfl, rfl⟩, State.begun_popPart_completes h .yh⟩,
    ⟨⟨rfl, rfl⟩, State.begun_popPart_completes h .yl⟩⟩

/-! ### POP F (R232) -/

/-- The flags are all that their replacement changes; the free value of IDELAY that it may take is counted (log
entry 5). -/
theorem Frame.popFlags (s : State) (v : Nibble) : Frame [.fi, .fd, .fz, .fc, .draws] [] [] s (s.popFlags v) :=
  .of_reads (fun p hp => by cases p <;> simp_all [Piece.Same]) (by simp) (by simp) (s.popFlags_bus v)

/-- The counter stays when the flags are replaced. -/
@[simp] theorem State.popFlags_pc12 (s : State) (v : Nibble) : (s.popFlags v).pc12 = s.pc12 := by simp [State.pc12]

/-- IDELAY stays when the flags are replaced, unless I goes from 0 to 1 (R42). -/
theorem State.popFlags_idelay_same {s : State} {v : Nibble} (h : ¬ (s.fi = false ∧ v.getLsbD 3 = true)) :
    (s.popFlags v).idelay = s.idelay := by
  rw [State.popFlags_idelay, if_neg h]

/-- Settles O29: the word at SP is read, and then the flags are replaced by it; IDELAY, cleared at the start of the
instruction, stays clear unless I goes from 0 to 1. -/
theorem popFlags : Obligations.PopFlags := by
  intro s h v
  have hpop := During.afterPop s.begun
  have hframe := (hpop.frame.trans (.popFlags _ v) (by decide)).of_begun
  refine ⟨⟨rfl, rfl⟩, _, State.begun_popInto_completes h State.popFlags, State.popFlags_fi _ v,
    State.popFlags_fd _ v, State.popFlags_fz _ v, State.popFlags_fc _ v, State.popFlags_sp _ v, fun hfi => ?_, ?_, ?_,
    hframe.more (by decide) (fun p _ => by cases p <;> rfl) rfl rfl rfl⟩
  · exact (State.popFlags_idelay_same (by simpa using hfi)).trans hpop.idelay
  · exact (State.popFlags_psetf _ v).trans hpop.psetf
  · rw [State.nextPC_pc12, State.popFlags_pc12, hpop.pc12, State.begun_pc12]

/-! ### LD SPH,r and LD SPL,r (R233, R234), LD r,SPH and LD r,SPL (R235, R236) -/

/-- The load of SP with a value made of what an operand holds. -/
theorem State.begun_loadSP_completes {r : Reg} {s : State} (h : s.CanReadOperand r) (f : Nibble → BitVec 8) :
    ∃ t, finish (s.begun.loadPart (fun u v => u.setSP (f v)) r) = .next t ∧ t.sp = f (s.operand r) ∧
      Advanced s t ∧ Frame [.sp] [] (s.reads r (s.operand r)) s t := by
  have hload := (State.loadPart_ok s.begun (fun u v => u.setSP (f v)) r _).2 ⟨(s.begun_CanReadOperand r).2 h, rfl⟩
  have hduring := (During.afterOperand s.begun r).trans (.setSP _ (f (s.begun.operand r))) List.not_mem_nil
  exact ⟨_, (finish_next _ _).2 hload, by simp, by simpa using hduring.advanced (by decide)⟩

/-- Settles O30: the new SP is put together from the value of the operand and the half that stays. -/
theorem loadHalfOfSPFromOperand : Obligations.LoadHalfOfSPFromOperand := by
  intro r s h
  obtain ⟨t, hexec, hsp, hend⟩ := State.begun_loadSP_completes h (· ++ s.sp.extractLsb' 0 4)
  obtain ⟨t', hexec', hsp', hend'⟩ := State.begun_loadSP_completes h (s.sp.extractLsb' 4 4 ++ ·)
  refine ⟨⟨⟨rfl, rfl⟩, t, hexec, ?_, ?_, hend⟩, ⟨rfl, rfl⟩, t', hexec', ?_, ?_, hend'⟩
  · exact hsp ▸ BitVec.extractLsb'_append_eq_left
  · exact hsp ▸ BitVec.extractLsb'_append_eq_right
  · exact hsp' ▸ BitVec.extractLsb'_append_eq_right
  · exact hsp' ▸ BitVec.extractLsb'_append_eq_left

/-- Settles O31: what is stored is a half of SP, as the loads from a part of IX or IY store the part. -/
theorem loadOperandFromHalfOfSP : Obligations.LoadOperandFromHalfOfSP := by
  intro r s h
  exact ⟨⟨⟨rfl, rfl⟩, State.begun_storePart_completes h (s.sp.extractLsb' 4 4)⟩,
    ⟨⟨rfl, rfl⟩, State.begun_storePart_completes h (s.sp.extractLsb' 0 4)⟩⟩

end Sys2Proof.Machine

/-!
The statements of spec/46_arithmetic.md (R245 to R287). Table 2.3.1.1 is put in closed form, half by half, and ADD4 and
SUB4 are compared with that. An instruction reads its inputs into the ALU latches (`During.afterInputs`) and then
writes flags alone, or a result and flags: `During.putResult` is a result that reaches an operand, and
`During.afterResult` one that reaches the word at an address.
-/

namespace Sys2Proof.Machine

/-! ### Table 2.3.1.1 (R245 to R247) -/

/-- A row of the table: Z tells whether the output is 0. -/
def table247Row (c : Bool) (out : Nat) : Nat × Nat × Nat := ((decide (out = 0)).toNat, c.toNat, out)

/-- What an ALU function gives, as a row. -/
theorem AluOut.eq_table247Row {o : AluOut} (hz : o.z = decide (o.out = 0)) :
    (o.z.toNat, o.c.toNat, o.out.toNat) = table247Row o.c o.out.toNat := by
  have hout : decide (o.out = 0) = decide (o.out.toNat = 0) := decide_eq_decide.2 (BitVec.toNat_inj (y := 0)).symm
  rw [hz, hout, table247Row]

theorem table247AddHex_row : ∀ n < 32, table247AddHex[n]? = some (table247Row (decide (16 ≤ n)) (n % 16)) := by
  decide

/-- From 10 on the sum is corrected, and again modulo 16 from 26 on. -/
theorem table247AddDec_row : ∀ n < 32, table247AddDec[n]? =
    some (table247Row (decide (10 ≤ n)) (if 10 ≤ n then (n - 10) % 16 else n)) := by
  decide

theorem table247SubHex_row : ∀ n < 32, table247SubHex[n]? = some (table247Row (decide (n < 16)) (n % 16)) := by
  decide

/-- A negative difference, counted from -16, is corrected by 10. -/
theorem table247SubDec_row : ∀ n < 32, table247SubDec[n]? =
    some (table247Row (decide (n < 16)) (if n < 16 then (n + 10) % 16 else n % 16)) := by
  decide

section

variable (x y : Nibble) (cin dec : Bool)

theorem add4_dec_c : (add4 x y cin true).c = decide (10 ≤ x.toNat + y.toNat + cin.toNat) := by
  simp only [add4, true_and]
  split
  · next h => exact (decide_eq_true h).symm
  · next h => exact decide_eq_decide.2 (by omega)

theorem add4_dec_out_toNat : (add4 x y cin true).out.toNat =
    if 10 ≤ x.toNat + y.toNat + cin.toNat then (x.toNat + y.toNat + cin.toNat - 10) % 16
    else x.toNat + y.toNat + cin.toNat := by
  simp only [add4, true_and]
  split
  · exact BitVec.toNat_ofNat _ _
  · exact (BitVec.toNat_ofNat _ _).trans (Nat.mod_eq_of_lt (by omega))

theorem sub4_c : (sub4 x y cin dec).c = decide (x.toNat + 16 - y.toNat - cin.toNat < 16) := by
  have hy := y.isLt
  have hcin := cin.toNat_le
  simp only [sub4, decide_eq_decide]
  omega

/-- A difference is known by its residue: it may be counted from -16. -/
theorem ofInt_toNat_of_emod_eq {d : Int} {n : Nat} (h : d % 16 = (n : Int) % 16) :
    (BitVec.ofInt 4 d).toNat = n % 16 := by
  rw [BitVec.toNat_ofInt]
  omega

theorem sub4_hex_out_toNat : (sub4 x y cin false).out.toNat = (x.toNat + 16 - y.toNat - cin.toNat) % 16 := by
  have hy := y.isLt
  have hcin := cin.toNat_le
  simp only [sub4, Bool.false_eq_true, false_and, if_false]
  exact ofInt_toNat_of_emod_eq (by omega)

theorem sub4_dec_out_toNat : (sub4 x y cin true).out.toNat =
    if x.toNat + 16 - y.toNat - cin.toNat < 16 then (x.toNat + 16 - y.toNat - cin.toNat + 10) % 16
    else (x.toNat + 16 - y.toNat - cin.toNat) % 16 := by
  have hy := y.isLt
  have hcin := cin.toNat_le
  simp only [sub4, true_and]
  split
  · rw [if_pos (by omega)]
    exact ofInt_toNat_of_emod_eq (by omega)
  · rw [if_neg (by omega)]
    exact ofInt_toNat_of_emod_eq (by omega)

end

/-- Settles O41: each of the four halves of the table in its closed form, which the ALU function gives too. -/
theorem adderAndSubtracterMatchTheTable : Obligations.AdderAndSubtracterMatchTheTable := by
  intro a b cin dec
  have ha := a.isLt
  have hb := b.isLt
  have hcin := cin.toNat_le
  rw [AluOut.eq_table247Row (o := add4 a b cin dec) rfl, AluOut.eq_table247Row (o := sub4 a b cin dec) rfl, sub4_c]
  cases dec with
  | false =>
    rw [add4_hex_c, add4_hex_out_toNat, sub4_hex_out_toNat]
    exact ⟨table247AddHex_row _ (by omega), table247SubHex_row _ (by omega)⟩
  | true =>
    rw [add4_dec_c, add4_dec_out_toNat, sub4_dec_out_toNat]
    exact ⟨table247AddDec_row _ (by omega), table247SubDec_row _ (by omega)⟩

/-! ### What each operation of the ALU does during an instruction -/

section

variable (s : State) (r : Reg) (src : Src) (x : Nibble) (b : Bool)

theorem During.latchA : During [.tempA] [] [] s (s.latchA x) :=
  .of_update (fun p hp => by cases p <;> simp_all [Piece.Same]) rfl rfl rfl rfl rfl rfl

theorem During.setZ : During [.fz] [] [] s (s.setZ b) :=
  .of_update (fun p hp => by cases p <;> simp_all [Piece.Same]) rfl rfl rfl rfl rfl rfl

theorem During.setC : During [.fc] [] [] s (s.setC b) :=
  .of_update (fun p hp => by cases p <;> simp_all [Piece.Same]) rfl rfl rfl rfl rfl rfl

/-- The state in which the ALU has its two inputs: the destination is read, then the source, and the latches hold what
they gave (R75). -/
def State.afterInputs : State :=
  ((s.afterOperand r).afterSrc src).latch (s.operand r) ((s.afterOperand r).srcValue src)

/-- The reads that give the two inputs: an immediate needs none. -/
def State.inputReads : List BusEvent :=
  match src with
  | .imm _ => s.reads r (s.operand r)
  | .reg q => s.reads r (s.operand r) ++ (s.afterOperand r).reads q ((s.afterOperand r).operand q)

@[simp] theorem State.begun_inputReads : s.begun.inputReads r src = s.inputReads r src := by
  cases src <;> simp [State.inputReads]

theorem State.begun_afterOperand_srcValue :
    (s.begun.afterOperand r).srcValue src = (s.afterOperand r).srcValue src := by simp

/-- The latches are all that reading the two inputs changes. -/
theorem During.afterInputs : During [.tempA, .tempB] [] (s.inputReads r src) s (s.afterInputs r src) := by
  cases src with
  | imm i => exact (During.afterOperand s r).update (.latch _ (s.operand r) i) List.not_mem_nil
  | reg q =>
    exact ((During.afterOperand s r).trans (.afterOperand _ q) List.not_mem_nil).update (.latch _ _ _)
      List.not_mem_nil

end

/-! ### A result that reaches an operand -/

/-- Where latches alone have changed, the operands are those of the start. -/
theorem During.keeps_index {P : List Piece} {A : List DataAddr} {l : List BusEvent} {s u : State}
    (h : During P A l s.begun u) (hP : P ⊆ [.tempA, .tempB]) :
    u.device = s.device ∧ u.ix = s.ix ∧ u.iy = s.iy := by
  obtain ⟨hpieces, -, -⟩ := h.frame
  have hsame (p : Piece) (hp : p ∉ [Piece.tempA, .tempB]) : p.Same s.begun u := hpieces p fun hmem => hp (hP hmem)
  have hxp : u.xp = s.xp := hsame .xp (by decide)
  have hxh : u.xh = s.xh := hsame .xh (by decide)
  have hxl : u.xl = s.xl := hsame .xl (by decide)
  have hyp : u.yp = s.yp := hsame .yp (by decide)
  have hyh : u.yh = s.yh := hsame .yh (by decide)
  have hyl : u.yl = s.yl := hsame .yl (by decide)
  exact ⟨hsame .device (by decide), by simp only [State.ix, State.xhl, hxp, hxh, hxl],
    by simp only [State.iy, State.yhl, hyp, hyh, hyl]⟩

/-- An instruction that reads into the ALU latches or none, gives an operand its result, and writes C, Z, both or
neither. -/
theorem During.putResult {P Q : List Piece} {l : List BusEvent} {s u w : State} {r : Reg} {v : Nibble}
    (h : During P [] l s.begun u) (k : During Q [] [] (u.afterPut r v) w) (hP : P ⊆ [.tempA, .tempB])
    (hQ : Q ⊆ [.fc, .fz]) :
    s.OperandTook w.nextPC r v ∧ Advanced s w.nextPC ∧
      Frame (Q ++ (P ++ destPieces r)) (s.operandAddrs r) (l ++ s.writes r v) s w.nextPC := by
  obtain ⟨hdev, hix, hiy⟩ := h.keeps_index hP
  have haddrs : u.operandAddrs r = s.operandAddrs r := by simp only [State.operandAddrs, hix, hiy]
  have hwrites : u.writes r v = s.writes r v := by rw [State.writes, haddrs, State.writes]
  have hdevP : Piece.device ∉ P := fun hmem => absurd (hP hmem) (by decide)
  have hdevQ : Piece.device ∉ Q := fun hmem => absurd (hQ hmem) (by decide)
  have hdevPut : Piece.device ∉ P ++ destPieces r := by simp [hdevP, device_notMem_destPieces]
  have htook := ((u.afterPut_took r v).source hdev hix hiy).during k (fun hmem => absurd (hQ hmem) (by decide))
    (fun hmem => absurd (hQ hmem) (by decide))
  have hduring := (h.trans (.afterPut u r v) hdevP).update k hdevPut
  rw [List.nil_append, haddrs, hwrites] at hduring
  exact ⟨htook.congr rfl rfl rfl rfl, hduring.advanced (by simp [hdevQ, hdevPut])⟩

section

variable {r : Reg} {src : Src} {s : State}

/-- An arithmetic instruction: the function gives the result, C and Z. -/
theorem State.begun_arith_completes (hr : s.CanReadOperand r) (hsrc : s.CanReadSrc src) (hw : s.CanWriteOperand r)
    (f : Nibble → Nibble → AluOut) :
    let x := s.operand r
    let y := (s.afterOperand r).srcValue src
    ∃ t, finish (s.begun.arith f r src) = .next t ∧ s.OperandTook t r (f x y).out ∧ t.fc = (f x y).c ∧
      t.fz = (f x y).z ∧ Advanced s t ∧
      Frame (.fc :: .fz :: .tempA :: .tempB :: destPieces r) (s.operandAddrs r)
        (s.inputReads r src ++ s.writes r (f x y).out) s t := by
  have harith := (State.arith_ok s.begun f r src _).2
    ⟨(s.begun_CanReadOperand r).2 hr, (s.begun_CanReadSrc src).2 hsrc, (s.begun_CanWriteOperand r).2 hw, rfl⟩
  rw [← s.begun_operand r, ← s.begun_afterOperand_srcValue r src, ← s.begun_inputReads r src]
  obtain ⟨htook, hend⟩ := (During.afterInputs s.begun r src).putResult (.setCZ _ _ _) (by decide) (by decide)
  exact ⟨_, (finish_next _ _).2 harith, htook, rfl, rfl, hend⟩

/-- A logic instruction: Z tells whether the result is 0. -/
theorem State.begun_logic_completes (hr : s.CanReadOperand r) (hsrc : s.CanReadSrc src) (hw : s.CanWriteOperand r)
    (f : Nibble → Nibble → Nibble) :
    let x := s.operand r
    let y := (s.afterOperand r).srcValue src
    ∃ t, finish (s.begun.logic f r src) = .next t ∧ s.OperandTook t r (f x y) ∧ t.fz = decide (f x y = 0#4) ∧
      Advanced s t ∧
      Frame (.fz :: .tempA :: .tempB :: destPieces r) (s.operandAddrs r)
        (s.inputReads r src ++ s.writes r (f x y)) s t := by
  have hlogic := (State.logic_ok s.begun f r src _).2
    ⟨(s.begun_CanReadOperand r).2 hr, (s.begun_CanReadSrc src).2 hsrc, (s.begun_CanWriteOperand r).2 hw, rfl⟩
  rw [← s.begun_operand r, ← s.begun_afterOperand_srcValue r src, ← s.begun_inputReads r src]
  obtain ⟨htook, hend⟩ := (During.afterInputs s.begun r src).putResult (.setZ _ _) (by decide) (by decide)
  exact ⟨_, (finish_next _ _).2 hlogic, htook, rfl, hend⟩

/-- A comparison: C is the borrow of SUB4, and Z the zero of its difference. -/
theorem State.begun_compare_completes (hr : s.CanReadOperand r) (hsrc : s.CanReadSrc src) :
    let x := s.operand r
    let y := (s.afterOperand r).srcValue src
    ∃ t, finish (s.begun.compare r src) = .next t ∧ t.fc = decide (x.toNat < y.toNat) ∧ t.fz = decide (x = y) ∧
      Advanced s t ∧ Frame [.fc, .fz, .tempA, .tempB] [] (s.inputReads r src) s t := by
  have hcompare := (State.compare_ok s.begun r src _).2
    ⟨(s.begun_CanReadOperand r).2 hr, (s.begun_CanReadSrc src).2 hsrc, rfl⟩
  rw [← s.begun_operand r, ← s.begun_afterOperand_srcValue r src, ← s.begun_inputReads r src]
  exact ⟨_, (finish_next _ _).2 hcompare, sub4_hex_c _ _, sub4_hex_z _ _,
    ((During.afterInputs s.begun r src).update (.setCZ _ _ _) (by decide)).advanced (by decide)⟩

/-- A test of bits: Z tells whether no bit is 1 in both inputs. -/
theorem State.begun_testBits_completes (hr : s.CanReadOperand r) (hsrc : s.CanReadSrc src) :
    let x := s.operand r
    let y := (s.afterOperand r).srcValue src
    ∃ t, finish (s.begun.testBits r src) = .next t ∧ t.fz = decide (x &&& y = 0#4) ∧ Advanced s t ∧
      Frame [.fz, .tempA, .tempB] [] (s.inputReads r src) s t := by
  have htest := (State.testBits_ok s.begun r src _).2
    ⟨(s.begun_CanReadOperand r).2 hr, (s.begun_CanReadSrc src).2 hsrc, rfl⟩
  rw [← s.begun_operand r, ← s.begun_afterOperand_srcValue r src, ← s.begun_inputReads r src]
  exact ⟨_, (finish_next _ _).2 htest, rfl,
    ((During.afterInputs s.begun r src).update (.setZ _ _) (by decide)).advanced (by decide)⟩

end

/-! ### ADD, ADC, SUB, SBC (R250 to R256) -/

/-- Settles O32: the adder or the subtracter, with C or without, in the mode D gives. -/
theorem addAndSubtractRegister : Obligations.AddAndSubtractRegister := by
  intro r q s hr hq hw
  have hsrc : s.CanReadSrc (.reg q) := hq
  exact ⟨⟨⟨rfl, rfl⟩, State.begun_arith_completes hr hsrc hw (add4 · · false s.fd)⟩,
    ⟨⟨rfl, rfl⟩, State.begun_arith_completes hr hsrc hw (add4 · · s.fc s.fd)⟩,
    ⟨⟨rfl, rfl⟩, State.begun_arith_completes hr hsrc hw (sub4 · · false s.fd)⟩,
    ⟨⟨rfl, rfl⟩, State.begun_arith_completes hr hsrc hw (sub4 · · s.fc s.fd)⟩⟩

/-- Settles O33: the same with an immediate, which is always there to be read. -/
theorem addAndSubtractImmediate : Obligations.AddAndSubtractImmediate := by
  intro r i s hr hw
  have hsrc : s.CanReadSrc (.imm i) := trivial
  exact ⟨⟨⟨rfl, rfl⟩, State.begun_arith_completes hr hsrc hw (add4 · · false s.fd)⟩,
    ⟨⟨rfl, rfl⟩, State.begun_arith_completes hr hsrc hw (add4 · · s.fc s.fd)⟩,
    ⟨⟨rfl, rfl⟩, State.begun_arith_completes hr hsrc hw (sub4 · · s.fc s.fd)⟩⟩

/-! ### AND, OR, XOR, NOT (R257 to R262, R287) -/

/-- Settles O34, function by function. -/
theorem logicRegister : Obligations.LogicRegister := by
  intro r q s hr hq hw
  have hsrc : s.CanReadSrc (.reg q) := hq
  exact ⟨⟨⟨rfl, rfl⟩, State.begun_logic_completes hr hsrc hw (· &&& ·)⟩,
    ⟨⟨rfl, rfl⟩, State.begun_logic_completes hr hsrc hw (· ||| ·)⟩,
    ⟨⟨rfl, rfl⟩, State.begun_logic_completes hr hsrc hw (· ^^^ ·)⟩⟩

/-- Settles O35: NOT is XOR with four ones, which is the one's complement. -/
theorem logicImmediate : Obligations.LogicImmediate := by
  intro r i s hr hw
  have hsrc : s.CanReadSrc (.imm i) := trivial
  refine ⟨⟨⟨rfl, rfl⟩, State.begun_logic_completes hr hsrc hw (· &&& ·)⟩,
    ⟨⟨rfl, rfl⟩, State.begun_logic_completes hr hsrc hw (· ||| ·)⟩,
    ⟨⟨rfl, rfl⟩, State.begun_logic_completes hr hsrc hw (· ^^^ ·)⟩, ⟨rfl, rfl⟩, ?_⟩
  have hnot : s.operand r ^^^ 0xF#4 = ~~~ s.operand r := BitVec.xor_allOnes
  rw [← hnot]
  exact State.begun_logic_completes hr (src := .imm 0xF) trivial hw (· ^^^ ·)

/-! ### CP and FAN (R263 to R266) -/

/-- Settles O36: SUB4 without decimal correction and without C, for its flags alone. -/
theorem compareOperand : Obligations.CompareOperand := by
  intro r q i s hr
  exact ⟨⟨⟨rfl, rfl⟩, State.begun_compare_completes hr (src := .imm i) trivial⟩,
    fun hq => ⟨⟨rfl, rfl⟩, State.begun_compare_completes hr (src := .reg q) hq⟩⟩

/-- Settles O37: the bitwise AND, for Z alone. -/
theorem testOperandBits : Obligations.TestOperandBits := by
  intro r q i s hr
  exact ⟨⟨⟨rfl, rfl⟩, State.begun_testBits_completes hr (src := .imm i) trivial⟩,
    fun hq => ⟨⟨rfl, rfl⟩, State.begun_testBits_completes hr (src := .reg q) hq⟩⟩

/-! ### RLC and RRC (R267, R268) -/

/-- RLC is a shift to the left, with the old C in bit 0. -/
theorem rotateLeft_fst : ∀ (x : Nibble) (c : Bool),
    (rotateLeft x c).1 = x <<< 1 ||| (if c = true then 1 else 0 : Nibble) := by
  decide

/-- RRC is a shift to the right, with the old C in bit 3. -/
theorem rotateRight_fst : ∀ (x : Nibble) (c : Bool),
    (rotateRight x c).1 = x >>> 1 ||| (if c = true then 1 else 0 : Nibble) <<< 3 := by
  decide

/-- A rotation, after the read of its operand: the operand takes the result, and C the bit shifted out. -/
theorem During.rotate_completes {P : List Piece} {l : List BusEvent} {s u : State} {r : Reg}
    (h : During P [] l s.begun u) (hP : P ⊆ [.tempA, .tempB]) (hw : u.CanWriteOperand r) (p : Nibble × Bool) :
    ∃ t, (do let t ← u.regWrite r p.1; return (t.setC p.2).nextPC : Res State) = .ok t ∧ s.OperandTook t r p.1 ∧
      t.fc = p.2 ∧ Advanced s t ∧
      Frame (.fc :: (P ++ destPieces r)) (s.operandAddrs r) (l ++ s.writes r p.1) s t := by
  have hwrite := (State.regWrite_ok u r p.1 _).2 ⟨hw, rfl⟩
  obtain ⟨htook, hend⟩ := h.putResult (.setC _ p.2) hP (by decide)
  exact ⟨_, (Res.bind_ok _ _ _).2 ⟨_, hwrite, rfl⟩, htook, rfl, hend⟩

/-- Settles O38: the operand is read, by RLC into an ALU latch, and takes its rotation. -/
theorem rotateThroughCarry : Obligations.RotateThroughCarry := by
  intro r s hr hw x carry
  have hread := (State.regRead_ok s.begun r _).2 ⟨(s.begun_CanReadOperand r).2 hr, rfl⟩
  have hduring := During.afterOperand s.begun r
  rw [State.begun_operand, State.begun_reads] at hduring
  rw [State.begun_operand] at hread
  have hleft : x <<< 1 ||| carry = (rotateLeft x s.fc).1 := (rotateLeft_fst x s.fc).symm
  have hright : x >>> 1 ||| carry <<< 3 = (rotateRight x s.fc).1 := (rotateRight_fst x s.fc).symm
  rw [hleft, hright]
  obtain ⟨t, hrlc, hendRlc⟩ := (hduring.update (.latchA _ x) (by decide)).rotate_completes (r := r) (by decide)
    (by simpa using hw) (rotateLeft x s.fc)
  obtain ⟨t', hrrc, hendRrc⟩ := hduring.rotate_completes (r := r) (by decide) (by simpa using hw)
    (rotateRight x s.fc)
  exact ⟨⟨⟨rfl, rfl⟩, t, (finish_next _ _).2 ((Res.bind_ok _ _ _).2 ⟨_, hread, hrlc⟩), hendRlc⟩,
    ⟨rfl, rfl⟩, t', (finish_next _ _).2 ((Res.bind_ok _ _ _).2 ⟨_, hread, hrrc⟩), hendRrc⟩

/-! ### A result that reaches a word of data memory -/

section

variable (s : State) (f : Nibble → Nibble → AluOut) (addr : DataAddr) (x y : Nibble)

/-- The state after an ALU operation on two latched inputs has written its result to an address, and C and Z. -/
def State.afterResult : State := ((s.latch x y).afterWrite addr (f x y).out).setCZ (f x y).c (f x y).z

@[simp] theorem State.afterResult_xhl : (s.afterResult f addr x y).xhl = s.xhl := by simp [State.afterResult]
@[simp] theorem State.afterResult_yhl : (s.afterResult f addr x y).yhl = s.yhl := by simp [State.afterResult]

/-- A result is the word at its address, where that is RAM. -/
theorem State.afterResult_word (h : kindAt s.device addr = .ram) :
    (s.afterResult f addr x y).ramWord addr = (f x y).out := by
  simp [State.afterResult, State.afterWrite_ramWord, h]

/-- The word, the flags C and Z and the latches are all that the result of an ALU operation changes. -/
theorem During.afterResult :
    During [.fc, .fz, .tempA, .tempB] [addr] [.write addr (f x y).out] s (s.afterResult f addr x y) :=
  ((During.latch s x y).trans (.afterWrite _ addr _) (by decide)).update (.setCZ _ _ _) (by decide)

end

/-! ### INC Mn and DEC Mn (R269, R270) -/

/-- A step of the word at 00nH: the function is given the word and 1. -/
theorem State.begun_stepDirect_completes {s : State} {n : Nibble} (hr : s.CanRead (directAddr n))
    (hw : s.CanWrite (directAddr n)) (f : Nibble → Nibble → AluOut) :
    let x := s.readValue (directAddr n)
    ∃ t, finish (s.begun.stepDirect f n) = .next t ∧
      (kindAt s.device (directAddr n) = .ram → t.ramWord (directAddr n) = (f x 1).out) ∧ t.fc = (f x 1).c ∧
      t.fz = (f x 1).z ∧ Advanced s t ∧
      Frame [.fc, .fz, .rp, .tempA, .tempB] [directAddr n]
        [.read (directAddr n) x, .write (directAddr n) (f x 1).out] s t := by
  intro x
  have hread := (During.loadRP s.begun n).trans (.afterRead _ (directAddr n)) (by decide)
  rw [State.loadRP_readValue, State.begun_readValue] at hread
  have hduring := (hread.trans (.afterResult _ f (directAddr n) x 1) (by decide)).mono
    (Q := [.fc, .fz, .rp, .tempA, .tempB]) (by decide)
  have hstep : s.begun.stepDirect f n =
      .ok (((s.begun.loadRP n).afterRead (directAddr n)).afterResult f (directAddr n) x 1).nextPC :=
    (State.stepDirect_ok s.begun f n _).2 ⟨hr, hw, rfl⟩
  refine ⟨_, (finish_next _ _).2 hstep, fun hk => ?_, rfl, rfl, hduring.advanced (by decide)⟩
  exact (State.nextPC_ramWord _ _).trans (State.afterResult_word _ f _ x 1 (by simpa using hk))

/-- Settles O39: a step up by ADD4 and a step down by SUB4, both without decimal correction and without C. -/
theorem incrementAndDecrementDirect : Obligations.IncrementAndDecrementDirect := by
  intro n s hr hw
  exact ⟨⟨⟨rfl, rfl⟩, State.begun_stepDirect_completes hr hw (add4 · · false false)⟩,
    ⟨⟨rfl, rfl⟩, State.begun_stepDirect_completes hr hw (sub4 · · false false)⟩⟩

/-! ### ACPX, ACPY, SCPX, SCPY (R283 to R286) -/

/-- An addition or subtraction in the word at an address, and then an update of X or Y, which leaves the flags. -/
theorem State.begun_arithMem_completes {s : State} {addr : DataAddr} {r : Reg} {Q : List Piece} {g : State → State}
    (hm : s.CanRead addr) (hr : s.CanReadOperand r) (hw : s.CanWrite addr) (f : Nibble → Nibble → AluOut)
    (hg : ∀ u, During Q [] [] u (g u)) (hc : Piece.fc ∉ Q) (hz : Piece.fz ∉ Q) (hdev : Piece.device ∉ Q) :
    let x := s.readValue addr
    let y := (s.afterRead addr).operand r
    let t := (g (((s.begun.afterRead addr).afterOperand r).afterResult f addr x y)).nextPC
    finish (do let u ← s.begun.arithMem f addr r; return (g u).nextPC) = .next t ∧
      (kindAt s.device addr = .ram → t.ramWord addr = (f x y).out) ∧ t.fc = (f x y).c ∧ t.fz = (f x y).z ∧
      Advanced s t ∧
      Frame (Q ++ [.fc, .fz, .tempA, .tempB]) [addr]
        (.read addr x :: ((s.afterRead addr).reads r y ++ [.write addr (f x y).out])) s t := by
  intro x y
  have harith := (State.arithMem_ok s.begun f addr r _).2 ⟨hm, (s.begun_CanReadOperand r).2 hr, hw, rfl⟩
  have hinputs := (During.afterRead s.begun addr).trans (.afterOperand _ r) List.not_mem_nil
  have hy : (s.begun.afterRead addr).operand r = y := by simp [y]
  have hreads : (s.begun.afterRead addr).reads r y = (s.afterRead addr).reads r y := by simp
  rw [hy] at harith
  rw [hy, hreads] at hinputs
  have hduring := hinputs.trans (.afterResult _ f addr x y) List.not_mem_nil
  obtain ⟨hexec, hend⟩ := hduring.completes harith (hg _) (by decide) hdev
  obtain ⟨hpieces, hwords, -⟩ := (hg (((s.begun.afterRead addr).afterOperand r).afterResult f addr x y)).frame
  refine ⟨hexec, fun hk => ?_, hpieces .fc hc, hpieces .fz hz, hend⟩
  exact (hwords addr List.not_mem_nil).trans (State.afterResult_word _ f addr x y (by simpa using hk))

/-- Settles O40: the word at the old IX or IY takes the sum or the difference, and then X or Y is one higher. -/
theorem memoryArithmeticAndIncrement : Obligations.MemoryArithmeticAndIncrement := by
  intro r s hr
  have hX (f : Nibble → Nibble → AluOut) (hm : s.CanRead s.ix) (hw : s.CanWrite s.ix) :=
    State.begun_arithMem_completes hm hr hw f (g := (State.bumpX · 1)) (During.bumpX · 1) (by decide) (by decide)
      (by decide)
  have hY (f : Nibble → Nibble → AluOut) (hm : s.CanRead s.iy) (hw : s.CanWrite s.iy) :=
    State.begun_arithMem_completes hm hr hw f (g := State.bumpY) During.bumpY (by decide) (by decide) (by decide)
  refine ⟨fun hm hw => ?_, fun hm hw => ?_, fun hm hw => ?_, fun hm hw => ?_⟩
  · obtain ⟨hexec, hword, hc, hz, hend⟩ := hX (add4 · · s.fc s.fd) hm hw
    exact ⟨⟨rfl, rfl⟩, _, hexec, hword, hc, hz, by simp, hend⟩
  · obtain ⟨hexec, hword, hc, hz, hend⟩ := hY (add4 · · s.fc s.fd) hm hw
    exact ⟨⟨rfl, rfl⟩, _, hexec, hword, hc, hz, by simp, hend⟩
  · obtain ⟨hexec, hword, hc, hz, hend⟩ := hX (sub4 · · s.fc s.fd) hm hw
    exact ⟨⟨rfl, rfl⟩, _, hexec, hword, hc, hz, by simp, hend⟩
  · obtain ⟨hexec, hword, hc, hz, hend⟩ := hY (sub4 · · s.fc s.fd) hm hw
    exact ⟨⟨rfl, rfl⟩, _, hexec, hword, hc, hz, by simp, hend⟩

end Sys2Proof.Machine

/-!
The statements of spec/60_exceptions.md: a request accepted (R312, R313) and withheld (R311), the interrupt registers of
the E0C6200 (R325), and where an instruction can stop at all (R300). The first two say which of the ways of
`State.oneStep` a boundary takes; the last rests on `StopsOnly`, which every shared operation meets, and on one case
split over the instructions, `exec_stopsAtData`.
-/

namespace Sys2Proof.Machine

/-! ### A request withheld (R311) and accepted (R312) -/

section

variable {s : State}

/-- Right after PSET no request is accepted (D19). -/
theorem State.acceptsInterrupt_of_psetf (h : s.psetf = true) : s.acceptsInterrupt = false := by
  simp [State.acceptsInterrupt, h]

/-- A boundary at which a request is accepted is an interrupt entry. -/
theorem step_accepted {v : Fin 15} (hreset : s.nextInput.reset = false) (hirq : s.nextInput.irq = some v)
    (haccepts : s.acceptsInterrupt = true) : step s = finish (s.atBoundary.interruptEntry v) := by
  simp [step, State.oneStep, hreset, hirq, haccepts]

/-- The step of a vector is its number, 1 to 15 (R313). -/
theorem vectorStep_toNat (v : Fin 15) : (vectorStep v).toNat = v.val + 1 := by
  rw [vectorStep, BitVec.toNat_ofNat]
  omega

/-- A push of a return address completes where the three words can be written, and changes no piece but SP. -/
theorem State.pushRet_completes (h : s.CanPushReturn) (ret : BitVec 12) :
    ∃ u, s.pushRet ret = .ok u ∧ ∀ p : Piece, p ≠ .sp → p.Same s u :=
  ⟨_, (State.pushRet_ok _ _ _).2 ⟨h, rfl⟩, fun p hp => by cases p <;> simp_all [Piece.Same]⟩

end

/-- Settles O51: with the request withheld as without it, the boundary goes to `proceed`, from the same state. -/
theorem interruptIsWithheld : Obligations.InterruptIsWithheld := by
  intro s v hreset _ hwithheld
  have hrefused : s.acceptsInterrupt = false := by
    obtain hfi | hidelay | hpsetf := hwithheld
    · exact State.acceptsInterrupt_of_fi hfi
    · exact State.acceptsInterrupt_of_idelay hidelay
    · exact State.acceptsInterrupt_of_psetf hpsetf
  have hquiet := step_quiet (s := { s with inputs := BoundaryInput.quiet :: s.inputs.tail }) rfl (.inl rfl)
  calc step s = s.atBoundary.proceed := step_quiet hreset (.inr hrefused)
    _ = step { s with inputs := BoundaryInput.quiet :: s.inputs.tail } := hquiet.symm

/-- Settles O50: after the push, only I, NPP, the counter, the hidden bits and RUNSTATE are written. -/
theorem acceptedInterruptIsEntered : Obligations.AcceptedInterruptIsEntered := by
  intro s v hreset hirq hfi hidelay hpsetf hpush
  have haccepts : s.acceptsInterrupt = true := by simp [State.acceptsInterrupt, hfi, hidelay, hpsetf]
  obtain ⟨u, hu, hsame⟩ := State.pushRet_completes (s := s.atBoundary) hpush s.pc12
  have hentry := (State.interruptEntry_ok s.atBoundary v _).2 ⟨hpush, u, hu, rfl⟩
  have hstep := (step_accepted hreset hirq haccepts).trans ((finish_next _ _).2 hentry)
  refine ⟨_, hstep, rfl, rfl, rfl, vectorStep_toNat v, rfl, rfl, rfl, hsame .inputs (by decide),
    .of_pushRet hu (fun p hp => ?_) rfl rfl rfl rfl rfl rfl rfl rfl rfl⟩
  have hsp : p ≠ .sp := by rintro rfl; simp at hp
  have hboundary : p.Same s s.atBoundary := by cases p <;> simp_all [Piece.Same]
  exact (hboundary.trans (hsame p hsp)).trans (by cases p <;> simp_all [Piece.Same])

/-! ### The interrupt registers of the E0C6200 (R325) -/

section

variable {s : State} {addr : DataAddr}

/-- A read stops exactly as its stop says. -/
theorem State.memRead_error_iff (e : Stop) : s.memRead addr = .error e ↔ s.readStop addr = some e := by
  unfold State.memRead
  cases s.readStop addr <;> simp

/-- A write stops exactly as its stop says. -/
theorem State.memWrite_error_iff (v : Nibble) (e : Stop) :
    s.memWrite addr v = .error e ↔ s.writeStop addr = some e := by
  unfold State.memWrite
  cases s.writeStop addr <;> simp

theorem State.canRead_interruptMask (h : kindAt s.device addr = .interruptMask) : s.CanRead addr := by
  simp [State.CanRead, State.readStop, h]

theorem State.canWrite_interruptFactor (h : kindAt s.device addr = .interruptFactor) : s.CanWrite addr := by
  simp [State.CanWrite, State.writeStop, h]

/-- A write of a mask register stops on the E0C6200 with I = 1 alone. -/
theorem State.writeStop_interruptMask (h : kindAt s.device addr = .interruptMask) :
    s.writeStop addr =
      if s.device.variant = .e0c6200 ∧ s.fi = true then some (.refusal (.interruptRegisterAtEI addr)) else none := by
  simp only [State.writeStop, h]

/-- A read of a factor flag stops on the E0C6200 with I = 1 alone. -/
theorem State.readStop_interruptFactor (h : kindAt s.device addr = .interruptFactor) :
    s.readStop addr =
      if s.device.variant = .e0c6200 ∧ s.fi = true then some (.refusal (.interruptRegisterAtEI addr)) else none := by
  simp only [State.readStop, h]

/-- On the E0C6200A, or with I = 0, it is not an E0C6200 with I = 1. -/
theorem State.not_e0c6200_and_fi (h : s.device.variant = .e0c6200A ∨ s.fi = false) :
    ¬ (s.device.variant = .e0c6200 ∧ s.fi = true) := by
  rintro ⟨hvariant, hfi⟩
  simp [hvariant, hfi] at h

end

/-- Settles O53: of the four accesses two never stop, and the other two stop as R325 says. -/
theorem interruptRegistersOfTheE0C6200 : Obligations.InterruptRegistersOfTheE0C6200 := by
  intro s addr v
  refine ⟨fun hk => ?mask, fun hk => ?factor⟩
  case mask =>
    have hstop := State.writeStop_interruptMask hk
    refine ⟨State.memRead_completes (State.canRead_interruptMask hk), ?_, fun h => ?_⟩
    · simp [State.memWrite_error_iff, hstop]
    · have hcan : s.CanWrite addr := hstop.trans (if_neg (State.not_e0c6200_and_fi h))
      exact State.memWrite_completes_outside hcan (by simp [hk]) v
  case factor =>
    have hstop := State.readStop_interruptFactor hk
    refine ⟨State.memWrite_completes_outside (State.canWrite_interruptFactor hk) (by simp [hk]) v, ?_, fun h => ?_⟩
    · simp [State.memRead_error_iff, hstop]
    · exact State.memRead_completes (hstop.trans (if_neg (State.not_e0c6200_and_fi h)))

/-! ### Where an instruction can stop (R300) -/

section

variable {s t : State}

/-- An instruction faults exactly when its meaning does. -/
theorem finish_fault (x : Res State) (f : Fault) : finish x = .fault f ↔ x = .error (.fault f) := by
  cases x with
  | ok u => simp [finish]
  | error e => cases e <;> simp [finish]

/-- An instruction is refused exactly when its meaning is. -/
theorem finish_refused (x : Res State) (r : Refusal) : finish x = .refused r ↔ x = .error (.refusal r) := by
  cases x with
  | ok u => simp [finish]
  | error e => cases e <;> simp [finish]

theorem StopsOnly.retdPopThenStore (h : SameAccess s t) (e : BitVec 8) : StopsOnly s (t.retdPopThenStore e) :=
  .bind (.popRet h) fun _ hp => .bind (.storePair (.popRet h hp) e) fun _ _ => .pure _ _

theorem StopsOnly.retdStoreThenPop (h : SameAccess s t) (e : BitVec 8) : StopsOnly s (t.retdStoreThenPop e) :=
  .bind (.storePair h e) fun _ hu => .bind (.popRet (.storePair h hu)) fun _ _ => .pure _ _

/-- The outcome is that of a computation which stops only at data accesses from the state. -/
def StopsAtData (s : State) (o : Host.Outcome State Fault Refusal) : Prop := ∃ x, o = finish x ∧ StopsOnly s x

theorem StopsAtData.finish {x : Res State} (h : StopsOnly s x) : StopsAtData s (finish x) := ⟨x, rfl, h⟩

/-- An instruction that makes no data access does not stop. -/
theorem StopsAtData.next (s t : State) : StopsAtData s (.next t) := ⟨.ok t, rfl, .ok s t⟩

/-- Every instruction stops only at a data access: each is made of the shared operations, none of which changes the
device or I before its last access. -/
theorem exec_stopsAtData (i : Instr) (s : State) : StopsAtData s (exec i s) := by
  have hs : SameAccess s s.begun := ⟨rfl, rfl⟩
  cases i
  case jp | jpba | jpC | jpNC | jpZ | jpNZ | pset | ei | di | setF | rstF | sdf | rdf | scf | szf | rcf | rzf | halt
      | slp | nop5 | nop7 | incX | incY | ldXE | ldYE | incSP | decSP | adcXHI | adcXLI | adcYHI | adcYLI | cpXHI
      | cpXLI | cpYHI | cpYLI => exact .next _ _
  case addRI | addRQ | adcRI | adcRQ | subRQ | sbcRI | sbcRQ => exact .finish (.arith hs _ _ _)
  case andRI | andRQ | orRI | orRQ | xorRI | xorRQ | notR => exact .finish (.logic hs _ _ _)
  case cpRI | cpRQ => exact .finish (.compare hs _ _)
  case fanRI | fanRQ => exact .finish (.testBits hs _ _)
  case incMn | decMn => exact .finish (.stepDirect hs _ _)
  case acpxMXR | acpyMYR | scpxMXR | scpyMYR => exact .finish (.bind (.arithMem hs _ _ _) fun _ _ => .pure _ _)
  case rlcR =>
    exact .finish (.bind (.regRead hs _) fun p hp =>
      .bind (.regWrite (t := p.2.latchA p.1) (SameAccess.regRead hs hp) _ _) fun _ _ => .pure _ _)
  case rrcR =>
    exact .finish (.bind (.regRead hs _) fun _ hp =>
      .bind (.regWrite (.regRead hs hp) _ _) fun _ _ => .pure _ _)
  case ldXPR | ldXHR | ldXLR | ldYPR | ldYHR | ldYLR => exact .finish (.loadPart hs _ _)
  case ldRXP | ldRXH | ldRXL | ldRYP | ldRYH | ldRYL => exact .finish (.storePart hs _ _)
  case ldRI | ldRSPH | ldRSPL => exact .finish (.bind (.regWrite hs _ _) fun _ _ => .pure _ _)
  case ldRQ | ldpxRQ | ldpyRQ => exact .finish (.bind (.move hs _ _) fun _ _ => .pure _ _)
  case ldSPHR | ldSPLR => exact .finish (.bind (.regRead hs _) fun _ _ => .pure _ _)
  case ldAMn n | ldBMn n => exact .finish (.bind (.memRead (t := s.begun.loadRP n) hs _) fun _ _ => .pure _ _)
  case ldMnA n | ldMnB n => exact .finish (.bind (.memWrite (t := s.begun.loadRP n) hs _ _) fun _ _ => .pure _ _)
  case ldpxMXI | ldpyMYI => exact .finish (.bind (.memWrite hs _ _) fun _ _ => .pure _ _)
  case lbpxMXE => exact .finish (.bind (.storePair hs _) fun _ _ => .pure _ _)
  case pushR => exact .finish (.bind (.regRead hs _) fun _ hp => .pushValue (.regRead hs hp) _)
  case pushXP | pushXH | pushXL | pushYP | pushYH | pushYL | pushF => exact .finish (.pushValue hs _)
  case popR =>
    exact .finish (.bind (.pop1 hs) fun _ hp => .bind (.regWrite (.pop1 hs hp) _ _) fun _ _ => .pure _ _)
  case popXP | popXH | popXL | popYP | popYH | popYL | popF => exact .finish (.popInto hs _)
  case call | calz => exact .finish (.bind (.pushRet hs _) fun _ _ => .pure _ _)
  case ret => exact .finish (.returnFromStack hs)
  case rets => exact .finish (.bind (.returnFromStack hs) fun _ _ => .pure _ _)
  case retd =>
    exact .finish (.bind (.retdPopThenStore hs _) fun _ _ => .bind (.retdStoreThenPop hs _) fun _ _ => .pure _ _)

end

/-- Settles O54: a stop is a data access that stops, and where all is RAM there is none. -/
theorem instructionsStopOnlyAtDataAccesses : Obligations.InstructionsStopOnlyAtDataAccesses := by
  intro i s
  obtain ⟨x, hx, hstops⟩ := exec_stopsAtData i s
  rw [hx]
  refine ⟨fun hmap => ?completes, fun f hf => ?faults, fun r hr => ?refused⟩
  case completes =>
    cases x with
    | ok t => exact ⟨t, rfl⟩
    | error e => exact absurd hmap (hstops e rfl).1
  case faults =>
    obtain ⟨-, ⟨addr, haddr, hk⟩ | ⟨addr, haddr, -⟩⟩ := hstops _ ((finish_fault x f).1 hf)
    · cases haddr
      exact ⟨addr, rfl, hk⟩
    · cases haddr
  case refused =>
    obtain ⟨-, ⟨addr, haddr, -⟩ | ⟨addr, haddr, hstop⟩⟩ := hstops _ ((finish_refused x r).1 hr)
    · cases haddr
    · cases haddr
      exact ⟨addr, rfl, hstop⟩

end Sys2Proof.Machine

/-!
The statement of spec/70_reset_and_hazards.md: an asserted reset (R340, R341). `step_reset` says which way of
`State.oneStep` such a boundary takes, and `State.doReset_ramWord` that no RAM word survives it.
-/

namespace Sys2Proof.Machine

/-! ### An asserted reset (R340, R341) -/

section

variable {s : State}

/-- A boundary with reset asserted is a reset: neither the run state nor a request is looked at (R45). -/
theorem step_reset (hreset : s.nextInput.reset = true) : step s = .next s.atBoundary.doReset :=
  if_pos hreset

/-- After a reset no RAM word is listed, so each is a free value of this reset (U2). -/
@[simp] theorem State.doReset_ramWord (s : State) (addr : DataAddr) :
    s.doReset.ramWord addr = Config.ramAtReset (s.resets + 1) addr.toNat := rfl

end

/-- Settles O49: the boundary is a reset, whose registers and hidden bits are those of `State.reset`; the input used up
there is no part of what reset looks at. -/
theorem resetInputResetsInAnyState : Obligations.ResetInputResetsInAnyState := by
  intro s hreset
  obtain ⟨hpcb, hpcp, hpcs, hnpp, hfi, hfd, hpsetf, hidelay, hrun, -⟩ := resetStateIsTheTable
  have hram (addr : DataAddr) : s.atBoundary.doReset.ramWord addr = Config.ramAtReset (s.resets + 1) addr.toNat := by
    simp
  have hkept : s.atBoundary.doReset.rom = s.rom ∧ s.atBoundary.doReset.device = s.device ∧
      s.atBoundary.doReset.inputs = s.inputs.tail ∧ s.atBoundary.doReset.bus = s.bus := ⟨rfl, rfl, rfl, rfl⟩
  exact ⟨s.atBoundary.doReset, step_reset hreset,
    hpcb, hpcp, hpcs, hnpp, hfi, fun _ => hfd rfl, hpsetf, hidelay, hrun, hram, hkept⟩

end Sys2Proof.Machine
